-- ==== Sys2Proof/Word.lean ====
section
/-! DEFINITION. The number types and the closed sets of names of the manual: places, units, stations, readings,
commands, states, alarm kinds, refusal reasons. Nothing here computes; codes, ranges and defaults are in
Machine/Codes.lean and Machine/Defaults.lean. -/

namespace Sys2Proof

/-! ### Numbers (00_scope 4.1) -/

/-- One byte of a frame, of the journal store or of the settings EEPROM. -/
abbrev Byte := BitVec 8
/-- A plant minute count: 32 bits, wrapping (R2). -/
abbrev Minute := BitVec 32
/-- A temperature in tenths of a degree, signed (00_scope 4.1). -/
abbrev Temp := Int
/-- A 32-bit station serial number (10.2). -/
abbrev Serial := BitVec 32

/-! ### Places, units and what may be bound, named or alarmed (00_scope 4.4, 12.1) -/

/-- Steeps S1..S6, counted from 0. -/
abbrev SteepId := Fin 6
/-- Boxes B1..B8, counted from 0. -/
abbrev BoxId := Fin 8
/-- Kilns K1 and K2, counted from 0. -/
abbrev KilnId := Fin 2
/-- A rail position of the turner, 0 (park) to 8 (5.1). -/
abbrev RailPos := Fin 9
/-- A pot position, counted from 0 where the manual counts 1..24. -/
abbrev PotId := Fin 24
/-- A zone of a box, counted from 0 where the manual counts 1..12. -/
abbrev ZoneId := Fin 12

/-- A vessel place: S, B and K places (00_scope 4.4). -/
inductive Vessel where
  | steep (v : SteepId)
  | box (b : BoxId)
  | kiln (k : KilnId)
deriving DecidableEq, Repr

/-- A place: a vessel, or OUT, which holds no lot (00_scope 4.4). -/
inductive Place where
  | vessel (v : Vessel)
  | out
deriving DecidableEq, Repr

/-- What a field station can be bound to: a vessel or one of the three station-driven units (R150). -/
inductive Site where
  | vessel (v : Vessel)
  | turner
  | peat
  | sampler
deriving DecidableEq, Repr

/-- The source of an alarm condition (R138); a station position is counted from 0 where the manual counts 1..30. -/
inductive Source where
  | vessel (v : Vessel)
  | turner
  | peat
  | sampler
  | journal
  | link
  | station (p : Fin 30)
deriving DecidableEq, Repr

/-- The subject of a STATE-CHANGE notice (12.1, 12.3). -/
inductive Subject where
  | vessel (v : Vessel)
  | turner
  | sampler
  | journal
  | port
  | pot (p : PotId)
deriving DecidableEq, Repr

/-- The stage of a lot: the kind of the place it occupies (R3). -/
inductive Stage where
  | steep | box | kiln
deriving DecidableEq, Repr

/-! ### Field stations (10.2) -/

/-- The six kinds of field station (10.2). -/
inductive StationKind where
  | steep | box | kiln | sampler | turner | peat
deriving DecidableEq, Repr

/-- Every upstream reading of every station kind (10.2 and the station tables of chapters 2, 4, 5, 6, 7 and 8). -/
inductive Reading where
  | level | tw | delivered
  | zoneA | zoneB | zoneC | echo | airOn | boxBed
  | ton | toff | kilnBed | burner
  | presenceLow | presenceHigh | drawStatus
  | position | motion
  | fireState | route
deriving DecidableEq, Repr

/-- Every command slot of every station kind (10.2). -/
inductive Command where
  | fillValve | outlet | air
  | fan | gate
  | setpoint | gateDamper
  | draw
  | target | action
  | peatRoute
deriving DecidableEq, Repr

/-- The two slot formats (R152). -/
inductive Format where
  | full | packed
deriving DecidableEq, Repr

/-- Steep level state (2.1). -/
inductive Level where
  | empty | grainDry | covered
deriving DecidableEq, Repr

/-- Bed state of a box or a kiln (4.1, 6.1). -/
inductive Bed where
  | empty | part | loaded
deriving DecidableEq, Repr

/-- Burner state of a kiln (6.1). -/
inductive Burner where
  | off | firing | lockout
deriving DecidableEq, Repr

/-- Motion of the turner (5.1). -/
inductive Motion where
  | stopped | moving | passing | fault
deriving DecidableEq, Repr

/-- Fire state of the peat generator (7.1). -/
inductive Fire where
  | burning | out
deriving DecidableEq, Repr

/-- Route reading of the peat diverter (7.1). -/
inductive RouteReading where
  | none | k1 | k2 | moving
deriving DecidableEq, Repr

/-- Draw status of the sampling machine (8.1). -/
inductive DrawStatus where
  | idle | drawing | done | failed
deriving DecidableEq, Repr

/-! ### Commands to the plant -/

/-- Outlet command of a steep (2.1). -/
inductive Outlet where
  | closed | drain | discharge
deriving DecidableEq, Repr

/-- Air command of a steep (2.1). -/
inductive Air where
  | off | aerate | extract
deriving DecidableEq, Repr

/-- Gate command of a box or a kiln (4.1, 6.1). -/
inductive Gate where
  | closed | receive | discharge
deriving DecidableEq, Repr

/-- Action command of the turner (5.1). -/
inductive Action where
  | stop | travel | pass | passSpray
deriving DecidableEq, Repr

/-! ### States of the blocks -/

/-- The nine states of a steep (R25). -/
inductive SteepState where
  | empty | charged | filling | immersed | draining | airRest | done | transferOut | halted
deriving DecidableEq, Repr

/-- The stage of a steep's present fill (R24). -/
inductive FillStage where
  | none | queued | running
deriving DecidableEq, Repr

/-- The six states of a box (R55). -/
inductive BoxState where
  | empty | loading | tending | ready | transferOut | halted
deriving DecidableEq, Repr

/-- Why a turn is asked for (R61, R72). -/
inductive TurnReason where
  | spread | hot | interval | host
deriving DecidableEq, Repr

/-- The four states of the turner (R71). -/
inductive TurnerState where
  | idle | travelling | passing | fault
deriving DecidableEq, Repr

/-- The causes of a turner fault (R71, R80). -/
inductive FaultCause where
  | stationFault | stale | travelLate
deriving DecidableEq, Repr

/-- The phases of a kiln, one per row of the table of R86: CURING is its two sub-states. -/
inductive KilnPhase where
  | empty | loading | freeDry | curingRamp | curingHold | cooling | ready | unloading | tripped
deriving DecidableEq, Repr

/-- The states of the peat fire (R106). -/
inductive PeatState where
  | free | switching | granted
deriving DecidableEq, Repr

/-- The states of a pot (R117). -/
inductive PotState where
  | absent | ready | drawing | filled | spoiled | unknown
deriving DecidableEq, Repr

/-- The states of the sampler (R119). -/
inductive SamplerState where
  | rebuilding | idle | drawing | clearing
deriving DecidableEq, Repr

/-- The modes of the sampler (R119). -/
inductive SamplerMode where
  | hold | pass
deriving DecidableEq, Repr

/-- The two sample points (1.5). -/
inductive Point where
  | steepOut | kilnOut
deriving DecidableEq, Repr

/-- The kinds of journal entry (R128). -/
inductive EntryKind where
  | lotIn | sample | missed | collected | lotOut | mark
deriving DecidableEq, Repr

/-- Why a sample was missed (R128). -/
inductive MissedReason where
  | noPot | samplerBusy | drawFailed | aborted
deriving DecidableEq, Repr

/-- The states of the journal (R131). -/
inductive JournalState where
  | scanning | running | formatting
deriving DecidableEq, Repr

/-- The alarm categories (R138). -/
inductive Category where
  | process | equipment | link | excise
deriving DecidableEq, Repr

/-- The alarm kinds, in the order of the table of R138. -/
inductive AlarmKind where
  | boxHot | breakLate | peatShort | transferLate
  | fillLate | steepBlind | boxBlind | kilnBlind | kilnOverheat | kilnDropLow | turnerFault | peatOut
  | linkDown | shortChain | planMismatch | stationLost
  | noPot | journalNearFull | journalFull | storeFault
deriving DecidableEq, Repr

/-- The states of an alarm entry (R139). -/
inductive AlarmState where
  | activeUnack | activeAck | clearedUnack
deriving DecidableEq, Repr

/-- The states of the horn (R145). -/
inductive HornState where
  | idle | on | off
deriving DecidableEq, Repr

/-- The states of the field link (R148). -/
inductive LinkState where
  | idle | rollCall | run | down
deriving DecidableEq, Repr

/-- The states of a roster entry (R150). -/
inductive StationState where
  | found | bound | active | lost
deriving DecidableEq, Repr

/-- The receive states of the port (R162). -/
inductive RxState where
  | hunt | length | kind | payload | check
deriving DecidableEq, Repr

/-- The port is READY or ANSWERING (R163). -/
inductive PortState where
  | ready | answering
deriving DecidableEq, Repr

/-- The reasons of a REFUSED reply (R164). -/
inductive Reason where
  | busy | state | range | conflict | full | unknownLot | unknownPlace | malformed
deriving DecidableEq, Repr

/-- The kinds of notice (11.4). -/
inductive NoticeKind where
  | alarmRaised | alarmCleared | stateChange | transferDone | journalEntry | linkState | saveDone
deriving DecidableEq, Repr

/-- The resets that start the part (R165, R166). -/
inductive ResetCause where
  | powerOn | restart
deriving DecidableEq, Repr

/-! ### What receives a plant minute, and what acts on an accepted cycle -/

/-- The receivers of a plant-minute event (R1). -/
inductive Receiver where
  | steep (v : SteepId)
  | box (b : BoxId)
  | kiln (k : KilnId)
  | water | turner | peat | sampler | horn | transfers | storeRetry
deriving DecidableEq, Repr

/-- The blocks that act on readings as they arrive (R155): each steep (R23), each kiln (R84), the turner (R70), the peat
fire (R105), the sampler (R116) and the Lot Table's completion tests (R15). -/
inductive Reactor where
  | steep (v : SteepId)
  | kiln (k : KilnId)
  | turner | peat | sampler | lots
deriving DecidableEq, Repr

end Sys2Proof
end

