-- ==== Sys2Proof/Syntax.lean ====
section
/-! DEFINITION. The commands of the block: one constructor of Instr per row of spec/opcode_table.json, in the table's order.
Three kinds of row stand side by side: what happens to the part from outside (power, the minute boundary, a link burst, the
store's answer, a frame byte), the part's own events (each the test of its rule), and the 56 requests of the Plant Message Port.
A request's operands are its wire fields: codes are kept as numbers, so that a code that names nothing can be refused as its
chapter says; an omitted field is none. -/

namespace Sys2Proof

/-! ### Operands from outside -/

/-- What a save of the settings image left in the EEPROM, where it did not end well (R168) or was cut off. -/
inductive ImageLeft where
  /-- the image that stood before the save -/
  | untouched
  /-- an image of the part's length and the body being saved, with this check -/
  | bad (check : BitVec 16)
  /-- the image being saved, whole -/
  | written
deriving DecidableEq, Repr

/-- What an abrupt loss left in the two external stores (R130, R133, R135, R168). -/
structure LossLeft where
  /-- the 32 bytes left at the record place of the write under way; none where the write had not disturbed it -/
  front : Option (List Byte)
  /-- how many record places a format under way had finished, the base place first (R135) -/
  formatDone : Nat
  /-- what a save under way left -/
  image : ImageLeft
deriving DecidableEq, Repr

/-- How a save ended (R168). -/
inductive SaveEnd where
  | ok
  | failed (left : ImageLeft)
deriving DecidableEq, Repr

/-- One slot of a returning burst, as it arrives (R152): the carried bits and whether the parity bit arrived set. -/
inductive RawSlot where
  | full (value : BitVec 16) (parity : Bool)
  | packed (exponent : BitVec 3) (mantissa : BitVec 9) (parity : Bool)
deriving DecidableEq, Repr

/-- What one planned station appended to a returning burst: its position and its slots in plan order (R155). -/
structure StationSlots where
  position : Nat
  slots : List RawSlot
deriving DecidableEq, Repr

/-- A returning burst: when it arrived, in link bit times, whether its header passed parity, and the slots (R155, R156). -/
structure Burst where
  offset : Int
  headerOk : Bool
  stations : List StationSlots
deriving DecidableEq, Repr

/-- The answer of a station to a probe (R151). -/
structure ProbeAnswer where
  kind : StationKind
  serial : Serial
  offset : Int
  parityOk : Bool
deriving DecidableEq, Repr

/-! ### Operands of requests -/

/-- LOT-QUERY carries either a lot number or a place code (R22). -/
inductive LotOrPlace where
  | lot (n : Nat)
  | place (code : Nat)
deriving DecidableEq, Repr

/-- The fields of RESTORE-LOT: every field of R3 but the transfer part, and the state of the place (R9). The stage must be a stage's
code (R163) and is then taken from the place (R10). The forced flag goes with the break minute and is none with no break. -/
structure RestoreFields where
  lot : Nat
  place : Nat
  stage : Nat
  state : Nat
  massIn : Nat
  w : Nat
  wcap : Nat
  target : Nat
  minSteep : Nat
  minBox : Nat
  turnCount : Nat
  lastTurn : Option Minute
  sinceTurn : Option Nat
  aborted : Nat
  spray : Nat
  wload : Option Nat
  d0 : Option Int
  q : Option Nat
  breakMinute : Option Minute
  forced : Option Bool
  peatTarget : Nat
  peatGiven : Nat
  shortfall : Option Nat
  steepOut : Option Nat
  kilnOut : Option Nat
  /-- carried, and not used: the record made has it set (R10) -/
  restored : Bool
deriving DecidableEq, Repr

/-- One step of STEEP-PROGRAM as sent: the kind code, the minutes, the litres (an IMMERSE step's) and the flag (R26, R27). -/
structure StepFields where
  kind : Nat
  minutes : Nat
  litres : Nat
  flag : Bool
deriving DecidableEq, Repr

/-- The fields of BOX-SETTINGS, each of which may be omitted; the high mean and Tset are temperatures (R66). -/
structure BoxFields where
  target : Option Nat
  minInterval : Option Nat
  maxInterval : Option Nat
  spreadThreshold : Option Nat
  highMean : Option Temp
  tset : Option Temp
  kf : Option Nat
  fbase : Option Nat
  fmin : Option Nat
  fmax : Option Nat
deriving DecidableEq, Repr

/-- The fields of TURNER-SETTINGS, each of which may be omitted (R82). -/
structure TurnerFields where
  travel : Option Nat
  pass : Option Nat
  spray : Vector (Option Nat) 8
deriving DecidableEq, Repr

/-- The fields of KILN-PROGRAM, each of which may be omitted; Tfd, Tc, Tcool and Tmax are temperatures (R89, R90). -/
structure KilnFields where
  tfd : Option Temp
  qb : Option Nat
  nb : Option Nat
  rr : Option Nat
  tc : Option Temp
  hc : Option Nat
  wfinal : Option Nat
  wend : Option Nat
  tcool : Option Temp
  maxFreeDry : Option Nat
  tmax : Option Temp
deriving DecidableEq, Repr

/-- The fields of HORN-SETTINGS, each of which may be omitted (R146); the four enables in category order. -/
structure HornFields where
  hon : Option Nat
  hoff : Option Nat
  enables : Vector (Option Bool) 4
deriving DecidableEq, Repr

/-- One change of ALARM-ENABLES (R140): a source code, a category code and the new value. -/
structure EnableChange where
  source : Nat
  category : Nat
  enabled : Bool
deriving DecidableEq, Repr

/-- What ALARM-ACK names: every entry, or the entry of a source code and a kind code (R143). -/
inductive AckTarget where
  | all
  | one (source kind : Nat)
deriving DecidableEq, Repr

/-- One upstream slot of SLOT-PLAN as sent: the reading's code among its station kind's and the format's (R153). -/
structure SlotFields where
  reading : Nat
  format : Nat
deriving DecidableEq, Repr

/-- One station of SLOT-PLAN as sent (R153). -/
structure StationFields where
  position : Nat
  serial : Serial
  ups : List SlotFields
  downs : List Nat
deriving DecidableEq, Repr

/-! ### The commands -/

/-- One constructor per row of spec/opcode_table.json. -/
inductive Instr where
  -- what happens to the part, and its own events
  | powerOn (eepromAnswers : Bool)
  | resetInput (left : LossLeft) (eepromAnswers : Bool)
  | plantMinute (order : List Receiver)
  | immersionEnd (v : SteepId)
  | airRestEnd (v : SteepId)
  | fillTimeout (v : SteepId)
  | fillDelivered (v : SteepId) (reading : Int)
  | immersionStart (v : SteepId)
  | drainEnd (v : SteepId) (level : Level)
  | roundStart
  | boxMinutesTarget (b : BoxId)
  | takeHead
  | travelEnd (position : RailPos)
  | passComplete
  | travelLate
  | turnerStationFault
  | turnerRecovery
  | kilnBreak (k : KilnId)
  | breakLate (k : KilnId)
  | curingEnd (k : KilnId)
  | kilnStandby (k : KilnId)
  | kilnTrip (k : KilnId) (ton : Temp)
  | spellEnd
  | switchoverSettle
  | peatOut
  | fireBurning
  | transferLate (lot : Nat)
  | transferCompletion (lot : Nat)
  | lotOutCompletion (lot : Nat)
  | drawStart
  | drawDone
  | drawFailed
  | drawTimeout
  | presenceEvent (upper : Bool) (mask : BitVec 12)
  | clearingEnd
  | startUpScan
  | potRebuild
  | entryStored
  | storeWriteFault
  | formatComplete
  | hornPhaseEnd
  | linkCyclePeriod
  | rollCallAnswer (answer : ProbeAnswer)
  | rollCallEnd
  | planIntoForce (offset : Int) (headerOk : Bool)
  | runCycleAccepted (burst : Burst) (order : List Reactor)
  | shortChain (mark : Nat) (burst : Burst) (order : List Reactor)
  | stationLost (position : Nat)
  | linkDown
  | triedCycle
  | triedCycleAccepted (mark : Option Nat) (burst : Burst) (order : List Reactor)
  | badFrame
  | byteGapTimeout
  | frameWhileAnswering
  | unknownKindRequest (kind : Byte)
  | replySent
  -- requests
  | setClock (count : Minute)
  | lotIn (lot place massIn w : Nat) (wcap target peat : Option Nat)
  | restoreLot (fields : RestoreFields)
  | transfer (lot dest : Nat) (force : Bool) (outMass : Option Nat)
  | transferAbort (lot : Nat)
  | transferSettings (timeout : Nat)
  | lotQuery (what : LotOrPlace)
  | lotList
  | steepProgram (place : Nat) (steps : List StepFields) (earlyFinish endWithRest : Bool)
  | steepSettings (place timeout : Nat)
  | steepStart (place : Nat)
  | steepHalt (place : Nat)
  | steepResume (place : Nat)
  | steepQuery (place : Nat)
  | waterSettings (allowance period : Option Nat)
  | waterQuery
  | zoneMask (place : Nat) (zones : List Nat)
  | boxSettings (place : Nat) (fields : BoxFields)
  | boxHalt (place : Nat) (demand : Option Nat)
  | boxResume (place : Nat)
  | boxQuery (place : Nat)
  | turnNow (place : Nat)
  | turnCancel (place : Nat)
  | turnerSettings (fields : TurnerFields)
  | turnerQuery
  | kilnProgram (place : Nat) (fields : KilnFields)
  | kilnForcePhase (place phase : Nat)
  | kilnTripClear (place : Nat)
  | kilnQuery (place : Nat)
  | peatSettings (spell switchover cutoff : Option Nat)
  | peatQuery
  | samplerMode (mode : Nat)
  | samplerQuery
  | journalRead (start count : Nat)
  | journalRelease (through : Nat)
  | journalMark (reference : BitVec 32)
  | journalFormat
  | alarmEnables (changes : List EnableChange)
  | alarmEnablesQuery (source : Option Nat)
  | alarmAck (what : AckTarget)
  | alarmQuery (start : Nat)
  | hornSettings (fields : HornFields)
  | rollCall
  | bindStation (site : Nat) (serial : Option Serial)
  | slotPlan (stations : List StationFields)
  | linkRestart
  | linkSettings (autoRollCall : Bool)
  | linkQuery (start : Nat)
  | nextNotice
  | setNoticeMask (enables : Vector Bool 7)
  | status
  | identify
  | saveSettings
  | saveDone (result : SaveEnd)
  | restart
  | restartReset (eepromAnswers : Bool)
  | powerLoss (left : LossLeft)
  | resetInputRelease (eepromAnswers : Bool)
  | startByteReceived (later : List Byte)
deriving DecidableEq, Repr

end Sys2Proof
end

