-- ==== Sys2Proof/Decode.lean ====
section
/-! DEFINITION. The decoder over the table's bits. The part has no instruction words: no row of spec/opcode_table.json gives bits
to its command, so no word spells one. What the port's frames spell is in Machine/Layout.lean. -/

namespace Sys2Proof

/-- The command a word of so many bits spells: none, since no row of the table gives bits. -/
def decodeTableWord (_nbits _w : Nat) : Option Instr := none

end Sys2Proof
end

