-- ==== Sys2Proof/Machine/Settings.lean ====
section
/-! DEFINITION. The settings of the part, as one record: exactly the list of 11.6, what the settings image holds. Each is
read by the chapter that owns it, set by that chapter's request, copied by SAVE-SETTINGS and replaced at a reset. -/

namespace Sys2Proof.Machine

/-- One step of a steep program (R26). -/
inductive SteepStep where
  | immerse (minutes litres : Nat) (aeration : Bool)
  | rest (minutes : Nat) (extraction : Bool)
deriving DecidableEq, Repr

/-- A steep program: 1 to 8 steps and two flags (R26). -/
structure SteepProgram where
  steps : List SteepStep
  earlyFinish : Bool
  endWithRest : Bool
deriving DecidableEq, Repr

/-- The settings of a box (R66). -/
structure BoxSettings where
  target : Nat
  minInterval : Nat
  maxInterval : Nat
  spreadThreshold : Nat
  highMean : Nat
  tset : Nat
  kf : Nat
  fbase : Nat
  fmin : Nat
  fmax : Nat
deriving DecidableEq, Repr

/-- The settings of the turner (R82). -/
structure TurnerSettings where
  travel : Nat
  pass : Nat
  spray : Vector Nat 8
deriving DecidableEq, Repr

/-- A kiln program (R89). -/
structure KilnProgram where
  tfd : Nat
  qb : Nat
  nb : Nat
  rr : Nat
  tc : Nat
  hc : Nat
  wfinal : Nat
  wend : Nat
  tcool : Nat
  maxFreeDry : Nat
  tmax : Nat
deriving DecidableEq, Repr

/-- The peat settings (R114). -/
structure PeatSettings where
  spell : Nat
  switchover : Nat
  cutoff : Nat
deriving DecidableEq, Repr

/-- The horn settings (R146); the enables in category order. -/
structure HornSettings where
  hon : Nat
  hoff : Nat
  enables : Vector Bool 4
deriving DecidableEq, Repr

/-- One upstream slot of a plan: a reading and its format (R153). -/
structure Slot where
  reading : Reading
  format : Format
deriving DecidableEq, Repr

/-- One planned station (R153). -/
structure PlanStation where
  position : Nat
  serial : Serial
  ups : List Slot
  downs : List Command
deriving DecidableEq, Repr

/-- A slot plan with the programmed turnaround offset E0 it was accepted with (R148, R153). -/
structure Plan where
  stations : List PlanStation
  e0 : Int
deriving DecidableEq, Repr

/-- Everything the settings image holds (11.6). -/
structure Settings where
  /-- the binding table: the serial bound to each place and unit (R150), by the index of Machine/Codes.lean -/
  bindings : Vector (Option Serial) 19
  /-- the held slot plan (R148) -/
  plan : Option Plan
  autoRollCall : Bool
  steepPrograms : Vector SteepProgram 6
  fillTimeouts : Vector Nat 6
  transferTimeout : Nat
  boxes : Vector BoxSettings 8
  /-- the zone mask of each box: set where the zone is excluded (R65) -/
  zoneMasks : Vector (Vector Bool 12) 8
  turner : TurnerSettings
  kilns : Vector KilnProgram 2
  peat : PeatSettings
  nextPw : Nat
  nextAw : Nat
  samplerMode : SamplerMode
  horn : HornSettings
  /-- the enable table, as the source and category pairs that are disabled (R140) -/
  disabledAlarms : List (Source × Category)
  /-- the notice mask, in the order of the notice kinds (R165) -/
  noticeMask : Vector Bool 7
deriving DecidableEq, Repr

end Sys2Proof.Machine
end

