-- ==== Sys2Proof/Machine/Codes.lean ====
section
/-! DEFINITION. The codes of 12.1 to 12.4: places, units, positions, states, kinds and reasons, each way the part needs them;
the index of each site in the binding table; and the values a STATE slot may carry (log 7). -/

namespace Sys2Proof

/-! ### Places, units, sources and subjects (12.1) -/

/-- The code of a vessel: 1..6, 11..18, 21 and 22. -/
def Vessel.code : Vessel → Nat
  | .steep v => v.val + 1
  | .box b => b.val + 11
  | .kiln k => k.val + 21

def Vessel.ofCode? (n : Nat) : Option Vessel :=
  if h : 1 ≤ n ∧ n ≤ 6 then some (.steep ⟨n - 1, by omega⟩)
  else if h : 11 ≤ n ∧ n ≤ 18 then some (.box ⟨n - 11, by omega⟩)
  else if h : 21 ≤ n ∧ n ≤ 22 then some (.kiln ⟨n - 21, by omega⟩)
  else none

/-- The code of a place; OUT is 30. -/
def Place.code : Place → Nat
  | .vessel v => v.code
  | .out => 30

def Place.ofCode? (n : Nat) : Option Place :=
  if n = 30 then some .out else (Vessel.ofCode? n).map .vessel

/-- The code of a place or unit that can be bound: TURNER 40, PEAT 41, SAMPLER 42. -/
def Site.code : Site → Nat
  | .vessel v => v.code
  | .turner => 40
  | .peat => 41
  | .sampler => 42

/-- The sites: every place and unit but OUT, and the units of `stationless`. -/
def Site.ofCode? (n : Nat) : Option Site :=
  if n = 40 then some .turner else if n = 41 then some .peat else if n = 42 then some .sampler
  else (Vessel.ofCode? n).map .vessel

/-- JOURNAL, LINK and PORT: units no kind of station serves, which BIND-STATION may name and nothing can be bound to (R150,
log 8). -/
def stationless (n : Nat) : Bool := n == 43 || n == 44 || n == 45

/-- The place of a site in the binding table: the steeps, the boxes, the kilns, TURNER, PEAT, SAMPLER. -/
def Site.index : Site → Fin 19
  | .vessel (.steep v) => ⟨v.val, by omega⟩
  | .vessel (.box b) => ⟨b.val + 6, by omega⟩
  | .vessel (.kiln k) => ⟨k.val + 14, by omega⟩
  | .turner => 16
  | .peat => 17
  | .sampler => 18

/-- The site at a place of the binding table. -/
def Site.ofIndex (i : Fin 19) : Site :=
  if h : i.val < 6 then .vessel (.steep ⟨i.val, h⟩)
  else if h : i.val < 14 then .vessel (.box ⟨i.val - 6, by omega⟩)
  else if h : i.val < 16 then .vessel (.kiln ⟨i.val - 14, by omega⟩)
  else if i.val = 16 then .turner
  else if i.val = 17 then .peat
  else .sampler

/-- The kind of station that serves a site (10.2). -/
def Site.stationKind : Site → StationKind
  | .vessel (.steep _) => .steep
  | .vessel (.box _) => .box
  | .vessel (.kiln _) => .kiln
  | .turner => .turner
  | .peat => .peat
  | .sampler => .sampler

/-- The code of an alarm source: station positions are 101..130. -/
def Source.code : Source → Nat
  | .vessel v => v.code
  | .turner => 40
  | .peat => 41
  | .sampler => 42
  | .journal => 43
  | .link => 44
  | .station p => p.val + 101

def Source.ofCode? (n : Nat) : Option Source :=
  if n = 40 then some .turner else if n = 41 then some .peat else if n = 42 then some .sampler
  else if n = 43 then some .journal else if n = 44 then some .link
  else if h : 101 ≤ n ∧ n ≤ 130 then some (.station ⟨n - 101, by omega⟩)
  else (Vessel.ofCode? n).map .vessel

/-- Every alarm source, in code order. -/
def Source.all : List Source :=
  (List.finRange 6).map (.vessel ∘ .steep) ++ (List.finRange 8).map (.vessel ∘ .box) ++
  (List.finRange 2).map (.vessel ∘ .kiln) ++ [.turner, .peat, .sampler, .journal, .link] ++
  (List.finRange 30).map .station

/-- The code of a STATE-CHANGE subject: pot positions are 201..224. -/
def Subject.code : Subject → Nat
  | .vessel v => v.code
  | .turner => 40
  | .sampler => 42
  | .journal => 43
  | .port => 45
  | .pot p => p.val + 201

def Stage.ofVessel : Vessel → Stage
  | .steep _ => .steep
  | .box _ => .box
  | .kiln _ => .kiln

/-- The stages in the order R3 names them: the numbers are the model's (log 17). -/
def Stage.code : Stage → Nat
  | .steep => 1 | .box => 2 | .kiln => 3

def Stage.ofCode? (n : Nat) : Option Stage :=
  match n with
  | 1 => some .steep | 2 => some .box | 3 => some .kiln | _ => none

/-! ### States and the like: by their row in the table that lists them, or as 12.1 lists the set. Where the set stands in no
table and 12.1 does not list it, the numbers are the model's choice, from 1 in the order the text names them (log 52), and the
docstring says so. -/

def SteepState.code : SteepState → Nat
  | .empty => 1 | .charged => 2 | .filling => 3 | .immersed => 4 | .draining => 5 | .airRest => 6 | .done => 7
  | .transferOut => 8 | .halted => 9

/-- R24 names the set and 12.1 gives it no codes: the model's choice (log 52). -/
def FillStage.code : FillStage → Nat
  | .none => 1 | .queued => 2 | .running => 3

def BoxState.code : BoxState → Nat
  | .empty => 1 | .loading => 2 | .tending => 3 | .ready => 4 | .transferOut => 5 | .halted => 6

def KilnPhase.code : KilnPhase → Nat
  | .empty => 1 | .loading => 2 | .freeDry => 3 | .curingRamp => 4 | .curingHold => 5 | .cooling => 6 | .ready => 7
  | .unloading => 8 | .tripped => 9

/-- The code of a curing sub-state, absent outside CURING; R85 names RAMP and HOLD and 12.1 gives them no codes: 1 and 2 are the
model's choice (log 52). -/
def KilnPhase.subCode? : KilnPhase → Option Nat
  | .curingRamp => some 1 | .curingHold => some 2 | _ => none

/-- The code of a damper command in KILN-QUERY's reply: OPEN 1, CLOSED 2. 12.1 gives none: the model's choice (log 52). -/
def damperCode (isOpen : Bool) : Nat := if isOpen then 1 else 2

def TurnerState.code : TurnerState → Nat
  | .idle => 1 | .travelling => 2 | .passing => 3 | .fault => 4

def FaultCause.code : FaultCause → Nat
  | .stationFault => 1 | .stale => 2 | .travelLate => 3

/-- SPREAD, HOT and INTERVAL by their row in R61's table; HOST stands in no table and takes the next number, the model's choice
(log 52). -/
def TurnReason.code : TurnReason → Nat
  | .spread => 1 | .hot => 2 | .interval => 3 | .host => 4

def PeatState.code : PeatState → Nat
  | .free => 1 | .switching => 2 | .granted => 3

def PotState.code : PotState → Nat
  | .absent => 1 | .ready => 2 | .drawing => 3 | .filled => 4 | .spoiled => 5 | .unknown => 6

def SamplerState.code : SamplerState → Nat
  | .rebuilding => 1 | .idle => 2 | .drawing => 3 | .clearing => 4

/-- SAMPLER-MODE's two modes stand in no table and 12.1 does not list them: HOLD 1 and PASS 2 are the model's choice (log 52). -/
def SamplerMode.code : SamplerMode → Nat
  | .hold => 1 | .pass => 2

def SamplerMode.ofCode? (n : Nat) : Option SamplerMode :=
  if n = 1 then some .hold else if n = 2 then some .pass else none

def JournalState.code : JournalState → Nat
  | .scanning => 1 | .running => 2 | .formatting => 3

def LinkState.code : LinkState → Nat
  | .idle => 1 | .rollCall => 2 | .run => 3 | .down => 4

def StationState.code : StationState → Nat
  | .found => 1 | .bound => 2 | .active => 3 | .lost => 4

/-- The kinds by their row in 10.2's table; 12.1 codes states, phases, modes and reasons so, and does not name station kinds: the
model's choice (log 52). -/
def StationKind.code : StationKind → Nat
  | .steep => 1 | .box => 2 | .kiln => 3 | .sampler => 4 | .turner => 5 | .peat => 6

/-- R145 names the set and 12.1 gives it no codes: the model's choice (log 52). -/
def HornState.code : HornState → Nat
  | .idle => 1 | .on => 2 | .off => 3

def AlarmState.code : AlarmState → Nat
  | .activeUnack => 1 | .activeAck => 2 | .clearedUnack => 3

def ResetCause.code : ResetCause → Nat
  | .powerOn => 1 | .restart => 2

def Reason.code : Reason → Nat
  | .busy => 1 | .state => 2 | .range => 3 | .conflict => 4 | .full => 5 | .unknownLot => 6 | .unknownPlace => 7
  | .malformed => 8

/-! ### Journal codes (R172) -/

def EntryKind.code : EntryKind → Nat
  | .lotIn => 1 | .sample => 2 | .missed => 3 | .collected => 4 | .lotOut => 5 | .mark => 6

def EntryKind.ofCode? (n : Nat) : Option EntryKind :=
  match n with
  | 1 => some .lotIn | 2 => some .sample | 3 => some .missed | 4 => some .collected | 5 => some .lotOut | 6 => some .mark
  | _ => none

def Point.code : Point → Nat
  | .steepOut => 1 | .kilnOut => 2

def Point.ofCode? (n : Nat) : Option Point :=
  match n with
  | 1 => some .steepOut | 2 => some .kilnOut | _ => none

def MissedReason.code : MissedReason → Nat
  | .noPot => 1 | .samplerBusy => 2 | .drawFailed => 3 | .aborted => 4

def MissedReason.ofCode? (n : Nat) : Option MissedReason :=
  match n with
  | 1 => some .noPot | 2 => some .samplerBusy | 3 => some .drawFailed | 4 => some .aborted | _ => none

/-! ### Alarms (R138) -/

/-- The category of a kind (R138). -/
def AlarmKind.category : AlarmKind → Category
  | .boxHot => .process | .breakLate => .process | .peatShort => .process | .transferLate => .process
  | .fillLate => .equipment | .steepBlind => .equipment | .boxBlind => .equipment | .kilnBlind => .equipment
  | .kilnOverheat => .equipment | .kilnDropLow => .equipment | .turnerFault => .equipment | .peatOut => .equipment
  | .linkDown => .link | .shortChain => .link | .planMismatch => .link | .stationLost => .link
  | .noPot => .excise | .journalNearFull => .excise | .journalFull => .excise | .storeFault => .excise

/-- The alarm kinds in the order of their table, which gives their codes from 1. -/
def AlarmKind.all : List AlarmKind :=
  [.boxHot, .breakLate, .peatShort, .transferLate, .fillLate, .steepBlind, .boxBlind, .kilnBlind, .kilnOverheat, .kilnDropLow,
   .turnerFault, .peatOut, .linkDown, .shortChain, .planMismatch, .stationLost, .noPot, .journalNearFull, .journalFull,
   .storeFault]

def AlarmKind.code (k : AlarmKind) : Nat := AlarmKind.all.idxOf k + 1

def AlarmKind.ofCode? (n : Nat) : Option AlarmKind :=
  if n = 0 then none else AlarmKind.all[n - 1]?

def Category.index : Category → Fin 4
  | .process => 0 | .equipment => 1 | .link => 2 | .excise => 3

def Category.code (c : Category) : Nat := c.index.val + 1

def Category.all : List Category := [.process, .equipment, .link, .excise]

def Category.ofCode? (n : Nat) : Option Category :=
  match n with
  | 1 => some .process | 2 => some .equipment | 3 => some .link | 4 => some .excise | _ => none

/-! ### Notices (12.3) -/

def NoticeKind.index : NoticeKind → Fin 7
  | .alarmRaised => 0 | .alarmCleared => 1 | .stateChange => 2 | .transferDone => 3 | .journalEntry => 4 | .linkState => 5
  | .saveDone => 6

def NoticeKind.code (k : NoticeKind) : Nat := k.index.val + 1

/-! ### Readings and commands of the station kinds (10.2) -/

/-- The readings of a kind, in the order of 10.2, which gives their codes from 1 (log 7). -/
def StationKind.readings : StationKind → List Reading
  | .steep => [.level, .tw, .delivered]
  | .box => [.zoneA, .zoneB, .zoneC, .echo, .airOn, .boxBed]
  | .kiln => [.ton, .toff, .kilnBed, .burner]
  | .sampler => [.presenceLow, .presenceHigh, .drawStatus]
  | .turner => [.position, .motion]
  | .peat => [.fireState, .route]

/-- The commands of a kind, in the order of 10.2, which gives their codes from 1 (log 7). -/
def StationKind.commands : StationKind → List Command
  | .steep => [.fillValve, .outlet, .air]
  | .box => [.fan, .gate]
  | .kiln => [.setpoint, .gateDamper]
  | .sampler => [.draw]
  | .turner => [.target, .action]
  | .peat => [.peatRoute]

/-- Whether a reading is a VALUE; the others are STATE readings (chapters 2, 4 to 8). -/
def Reading.isValue : Reading → Bool
  | .tw => true | .delivered => true | .zoneA => true | .zoneB => true | .zoneC => true | .airOn => true
  | .ton => true | .toff => true
  | .level => false | .echo => false | .boxBed => false | .kilnBed => false | .burner => false | .presenceLow => false
  | .presenceHigh => false | .drawStatus => false | .position => false | .motion => false | .fireState => false
  | .route => false

/-- Whether a reading is a temperature, clamped after decoding (R152). -/
def Reading.isTemperature : Reading → Bool
  | .tw => true | .zoneA => true | .zoneB => true | .zoneC => true | .airOn => true | .ton => true | .toff => true
  | .delivered => false
  | .level => false | .echo => false | .boxBed => false | .kilnBed => false | .burner => false | .presenceLow => false
  | .presenceHigh => false | .drawStatus => false | .position => false | .motion => false | .fireState => false
  | .route => false

/-- Whether a slot feeds a box's zone grid instead of the reading image (R149). -/
def Reading.isZone : Reading → Bool
  | .zoneA => true | .zoneB => true | .zoneC => true | .echo => true
  | .level => false | .tw => false | .delivered => false | .airOn => false | .boxBed => false | .ton => false | .toff => false
  | .kilnBed => false | .burner => false | .presenceLow => false | .presenceHigh => false | .drawStatus => false
  | .position => false | .motion => false | .fireState => false | .route => false

/-- 12.1 gives the formats of a slot no codes: FULL 1 and PACKED 2 are the model's choice (log 52). -/
def Format.code : Format → Nat
  | .full => 1 | .packed => 2

def Format.ofCode? (n : Nat) : Option Format :=
  if n = 1 then some .full else if n = 2 then some .packed else none

/-! ### The values of STATE readings (log 7): enumerations from 1 in the order their table lists them -/

def Level.code : Level → Int
  | .empty => 1 | .grainDry => 2 | .covered => 3

def Level.ofCode? (n : Int) : Option Level :=
  if n = 1 then some .empty else if n = 2 then some .grainDry else if n = 3 then some .covered else none

def Bed.code : Bed → Int
  | .empty => 1 | .part => 2 | .loaded => 3

def Bed.ofCode? (n : Int) : Option Bed :=
  if n = 1 then some .empty else if n = 2 then some .part else if n = 3 then some .loaded else none

def Burner.code : Burner → Int
  | .off => 1 | .firing => 2 | .lockout => 3

def Burner.ofCode? (n : Int) : Option Burner :=
  if n = 1 then some .off else if n = 2 then some .firing else if n = 3 then some .lockout else none

def Motion.code : Motion → Int
  | .stopped => 1 | .moving => 2 | .passing => 3 | .fault => 4

def Motion.ofCode? (n : Int) : Option Motion :=
  if n = 1 then some .stopped else if n = 2 then some .moving else if n = 3 then some .passing
  else if n = 4 then some .fault else none

def Fire.code : Fire → Int
  | .burning => 1 | .out => 2

def Fire.ofCode? (n : Int) : Option Fire :=
  if n = 1 then some .burning else if n = 2 then some .out else none

def RouteReading.code : RouteReading → Int
  | .none => 1 | .k1 => 2 | .k2 => 3 | .moving => 4

def RouteReading.ofCode? (n : Int) : Option RouteReading :=
  if n = 1 then some .none else if n = 2 then some .k1 else if n = 3 then some .k2 else if n = 4 then some .moving
  else Option.none

/-- The reading that shows the diverter at a kiln. -/
def RouteReading.ofKiln (k : KilnId) : RouteReading := if k = 0 then .k1 else .k2

def DrawStatus.code : DrawStatus → Int
  | .idle => 1 | .drawing => 2 | .done => 3 | .failed => 4

def DrawStatus.ofCode? (n : Int) : Option DrawStatus :=
  if n = 1 then some .idle else if n = 2 then some .drawing else if n = 3 then some .done
  else if n = 4 then some .failed else none

/-- A rail position reading, 0..8. -/
def RailPos.ofCode? (n : Int) : Option RailPos :=
  if h : 0 ≤ n ∧ n ≤ 8 then some ⟨n.toNat, by omega⟩ else none

/-- A presence mask: bit i shows the i-th of the mask's 12 positions PRESENT (log 7). -/
def presenceMask? (n : Int) : Option (BitVec 12) :=
  if 0 ≤ n ∧ n < 4096 then some (BitVec.ofNat 12 n.toNat) else none

/-- Whether a decoded value is one the reading can take; a STATE slot carrying any other is a failed slot (R152). -/
def Reading.admits (r : Reading) (n : Int) : Bool :=
  match r with
  | .level => (Level.ofCode? n).isSome
  | .boxBed => (Bed.ofCode? n).isSome
  | .kilnBed => (Bed.ofCode? n).isSome
  | .burner => (Burner.ofCode? n).isSome
  | .motion => (Motion.ofCode? n).isSome
  | .fireState => (Fire.ofCode? n).isSome
  | .route => (RouteReading.ofCode? n).isSome
  | .drawStatus => (DrawStatus.ofCode? n).isSome
  | .position => (RailPos.ofCode? n).isSome
  | .presenceLow => (presenceMask? n).isSome
  | .presenceHigh => (presenceMask? n).isSome
  | .echo => decide (0 ≤ n ∧ n ≤ 3)
  | .tw => true | .delivered => true | .zoneA => true | .zoneB => true | .zoneC => true | .airOn => true
  | .ton => true | .toff => true

/-! ### The values of commands (log 7) -/

def Outlet.code : Outlet → Nat
  | .closed => 1 | .drain => 2 | .discharge => 3

def Air.code : Air → Nat
  | .off => 1 | .aerate => 2 | .extract => 3

def Gate.code : Gate → Nat
  | .closed => 1 | .receive => 2 | .discharge => 3

def Action.code : Action → Nat
  | .stop => 1 | .travel => 2 | .pass => 3 | .passSpray => 4

end Sys2Proof
end

