-- ==== Sys2Proof/Config.lean ====
section
/-! DEFINITION. What the part fixes (capacities the manual gives) and the FREE VALUES: opaque constants that stand for a
value the manual leaves open. Nothing in Lean can evaluate an opaque constant or prove a value of it. -/

namespace Sys2Proof.Config

/-! ### Capacities -/

/-- Lot records (R4). -/
def lotCapacity : Nat := 16
/-- Alarm entries (R139). -/
def alarmCapacity : Nat := 48
/-- Notices queued (R165). -/
def noticeCapacity : Nat := 32
/-- Roster entries and station positions (R150). -/
def rosterCapacity : Nat := 30
/-- Entry places of the journal store (R129, R172). -/
def journalCapacity : Nat := 4096
/-- Places of the write queue (R130). -/
def writeQueueCapacity : Nat := 8
/-- The freshness limit in link cycles (R149). -/
def freshLimit : Nat := 150
/-- The largest age held (R52, R149). -/
def ageLimit : Nat := 65535
/-- The length of the settings image (R173). -/
def imageLength : Nat := 1536
/-- Room is offered as if numbers ended here: no entry is numbered above 4,294,967,295 (R129). -/
def numberLimit : Nat := 4294967296

/-! ### Free values (assumption log entries 2 to 5, 16 and 46) -/

/-- The drying ratio where a lot's first drop is 0 or below, which only RESTORE-LOT can give: R93 says D0 is at least 20, so
it states no result here (log 2). R3's range of Q, 0 to 1024, stands. -/
opaque openRatio : Int → Int → Fin 1025

/-- The position of the target commanded with STOP while the turner's known position is absent: R80 names the known position
(log 3). -/
opaque openTarget : Nat → RailPos

/-- A 32-bit count of minutes of a lot after one minute more than its largest value: R3 gives the range and not what
happens past it (log 4). The range stands. -/
opaque openCount : Nat → BitVec 32

/-- What a reply carries, in the given number of bytes, for a quantity that does not fit them: 12.1 gives the size and not this
(log 5). -/
opaque openWire : Nat → Int → Nat

/-- The 1,534 bytes of the settings image's body for the settings it holds: R173 gives no arrangement of the body (log 46). -/
opaque openBody : Machine.Settings → Vector Byte 1534

/-- How many entry places a format under way has erased when a RESTART resets the part: R169 and R135 name no number (log 16). -/
opaque openErased : Nat → Nat

end Sys2Proof.Config
end

