-- ==== Sys2Proof/Machine/Defaults.lean ====
section
/-! DEFINITION. The default of every setting, used where the settings image is not usable (R167): the tables of R26, R28, R44,
R66, R82, R89, R114, R119, R140, R146, R148, R165 and R18. -/

namespace Sys2Proof.Machine

/-- The default steep program (R26). -/
def SteepProgram.default : SteepProgram :=
  { steps := [.immerse 480 24000 true, .rest 720 true, .immerse 360 22000 true, .rest 480 true, .immerse 240 20000 true]
    earlyFinish := true
    endWithRest := false }

/-- The default box settings (R66). -/
def BoxSettings.default : BoxSettings :=
  { target := 5760, minInterval := 120, maxInterval := 480, spreadThreshold := 20, highMean := 180, tset := 160, kf := 10
    fbase := 50, fmin := 10, fmax := 100 }

/-- The default turner settings (R82). -/
def TurnerSettings.default : TurnerSettings :=
  { travel := 2, pass := 40, spray := Vector.replicate 8 0 }

/-- The default kiln program (R89). -/
def KilnProgram.default : KilnProgram :=
  { tfd := 600, qb := 256, nb := 15, rr := 2, tc := 800, hc := 180, wfinal := 450, wend := 350, tcool := 400
    maxFreeDry := 1200, tmax := 950 }

/-- The default peat settings (R114). -/
def PeatSettings.default : PeatSettings :=
  { spell := 30, switchover := 5, cutoff := 2500 }

/-- The default horn settings (R146). -/
def HornSettings.default : HornSettings :=
  { hon := 2, hoff := 10, enables := Vector.replicate 4 true }

/-- The defaults every block takes from an image that is not usable (R167): no binding, no plan, every enable enabled. -/
def Settings.default : Settings :=
  { bindings := Vector.replicate 19 none
    plan := none
    autoRollCall := true
    steepPrograms := Vector.replicate 6 SteepProgram.default
    fillTimeouts := Vector.replicate 6 60
    transferTimeout := 90
    boxes := Vector.replicate 8 BoxSettings.default
    zoneMasks := Vector.replicate 8 (Vector.replicate 12 false)
    turner := TurnerSettings.default
    kilns := Vector.replicate 2 KilnProgram.default
    peat := PeatSettings.default
    nextPw := 10
    nextAw := 40000
    samplerMode := .hold
    horn := HornSettings.default
    disabledAlarms := []
    noticeMask := Vector.replicate 7 true }

end Sys2Proof.Machine
end

