-- ==== Sys2Proof/Machine/State.lean ====
section
/-! DEFINITION. The state of the part and of its two external stores, as plain data, with its value after a first POWER-ON.
One record per block of 00_scope 3.1; each piece of state has one home. The fields that stand for nothing the manual names are
marked as the model's own. -/

namespace Sys2Proof.Machine

/-! ### Outcomes -/

/-- What stops the machine. No rule of the manual stops the part: every command is taken, refused by a reply, or has no
effect, so this type has no constructor. -/
inductive Fault where
deriving DecidableEq, Repr

/-- Why a command has no meaning in the model. -/
inductive Refusal where
  /-- Raised only by an arm of exec for a command that is not modelled yet (safe: nothing can be concluded of it). No arm
  answers with it. -/
  | notModelled (mnemonic : String)
deriving DecidableEq, Repr

/-! ### Plant Clock (PCK) -/

/-- The plant minute count and the clock-set flag (R2). -/
structure Clock where
  minutes : Minute
  isSet : Bool
deriving DecidableEq, Repr

/-! ### Lot Table (LTB) -/

/-- The transfer part of a lot record (R3). The source is the lot's place. -/
structure Transfer where
  dest : Place
  /-- FLOWING where set, PENDING where clear -/
  flowing : Bool
  /-- present for OUT only -/
  outMass : Option Nat
  /-- minutes flowing -/
  minutes : Nat
  /-- the timeout in force, from entry to FLOWING (R18) -/
  timeout : Option Nat
  /-- reservations held (R12) -/
  reserved : Nat
  /-- whether the draw for this transfer has been resolved (R15) -/
  resolved : Bool
  /-- whether TRANSFER-LATE has been raised for this transfer (R18) -/
  lateRaised : Bool
deriving DecidableEq, Repr

/-- A live lot record (R3). The stage is the kind of the place (Lot.stage). -/
structure Lot where
  number : Nat
  place : Vessel
  massIn : Nat
  w : Nat
  wcap : Nat
  target : Nat
  minSteep : Nat
  minBox : Nat
  turnCount : Nat
  lastTurn : Option Minute
  sinceTurn : Option Nat
  aborted : Nat
  spray : Nat
  wload : Option Nat
  d0 : Option Int
  q : Option Nat
  breakMinute : Option Minute
  /-- the forced flag kept with the break minute -/
  forced : Bool
  peatTarget : Nat
  peatGiven : Nat
  shortfall : Option Nat
  steepOut : Option Nat
  kilnOut : Option Nat
  restored : Bool
  transfer : Option Transfer
deriving DecidableEq, Repr

/-! ### Steep Controller (STC) -/

/-- A steep vessel record (R24) with the three commands it last wrote (R25). The program and the fill timeout are settings. -/
structure Steep where
  state : SteepState
  held : Option SteepState
  stepNumber : Option Nat
  stepMinutes : Nat
  skip : Bool
  fillStage : FillStage
  fillLitres : Nat
  /-- none where a grant waits for the first delivered-volume value (R23) -/
  fillBaseline : Option Int
  remainder : Option Nat
  fillMinutes : Nat
  delivered : Bool
  timeoutInForce : Nat
  valveOpen : Bool
  outlet : Outlet
  air : Air
deriving DecidableEq, Repr

def Steep.reset : Steep :=
  { state := .empty, held := none, stepNumber := none, stepMinutes := 0, skip := false, fillStage := .none, fillLitres := 0
    fillBaseline := some 0, remainder := none, fillMinutes := 0, delivered := false, timeoutInForce := 0, valveOpen := false
    outlet := .closed, air := .off }

/-! ### Water Round Allocator (WRA) -/

/-- An entry of the fill queue (R43). -/
structure FillRequest where
  steep : SteepId
  litres : Nat
  minute : Minute
deriving DecidableEq, Repr

/-- The fill queue and the round record (R43, R44); next Pw and next Aw are settings. -/
structure Water where
  queue : List FillRequest
  started : Bool
  startMinute : Minute
  period : Nat
  allowance : Nat
  counted : Nat
  booked : Nat
  grants : Nat
  closed : Bool
deriving DecidableEq, Repr

def Water.reset (pw aw : Nat) : Water :=
  { queue := [], started := false, startMinute := 0, period := pw, allowance := aw, counted := 0, booked := 0, grants := 0
    closed := false }

/-! ### Bed Monitor (BMN) -/

/-- A zone entry of a box's grid (R52). -/
structure Zone where
  value : Option Temp
  age : Nat
  /-- the model's own: written in the present cycle period, whose end leaves the age at 0 -/
  fed : Bool
deriving DecidableEq, Repr

/-- A turn need: the reason and the urgency (R61). -/
structure Need where
  reason : TurnReason
  urgency : Int
deriving DecidableEq, Repr

/-- A box record (R54); the zone mask and the box settings are settings. -/
structure Box where
  state : BoxState
  held : Option BoxState
  usable : Vector Bool 12
  mean : Option Int
  spread : Option Int
  blind : Bool
  engaged : Bool
  need : Option Need
  fan : Nat
  gate : Gate
  zones : Vector Zone 12
deriving DecidableEq, Repr

def Zone.reset : Zone := { value := none, age := 0, fed := false }

def Box.reset : Box :=
  { state := .empty, held := none, usable := Vector.replicate 12 false, mean := none, spread := none, blind := false
    engaged := false, need := none, fan := 0, gate := .closed, zones := Vector.replicate 12 Zone.reset }

/-! ### Turner Arbiter (TNA) -/

/-- An entry of the turn queue (R72). -/
structure TurnRequest where
  box : BoxId
  urgency : Int
  minute : Minute
  reason : TurnReason
deriving DecidableEq, Repr

/-- The operation being served (R71). -/
structure TurnOperation where
  request : TurnRequest
  lot : Nat
deriving DecidableEq, Repr

/-- The turner record and the turn queue (R71, R72). -/
structure Turner where
  state : TurnerState
  knownPosition : Option RailPos
  operation : Option TurnOperation
  travelMinutes : Nat
  travelLimit : Nat
  passMinutes : Nat
  passLength : Nat
  sprayInForce : Nat
  cause : Option FaultCause
  target : RailPos
  action : Action
  queue : List TurnRequest
deriving DecidableEq, Repr

def Turner.reset : Turner :=
  { state := .idle, knownPosition := none, operation := none, travelMinutes := 0, travelLimit := 0, passMinutes := 0
    passLength := 0, sprayInForce := 0, cause := none, target := 0, action := .stop, queue := [] }

/-! ### Kiln Controller (KLC) -/

/-- A kiln record (R85); the kiln program is a setting. The curing sub-state is part of the phase. -/
structure Kiln where
  phase : KilnPhase
  remembered : Option KilnPhase
  freeDryMinutes : Nat
  breakCount : Nat
  ramp : Nat
  holdMinutes : Nat
  blindMinutes : Nat
  breakLate : Bool
  peatGrant : Bool
  setpoint : Nat
  gate : Gate
  damperOpen : Bool
deriving DecidableEq, Repr

def Kiln.reset : Kiln :=
  { phase := .empty, remembered := none, freeDryMinutes := 0, breakCount := 0, ramp := 0, holdMinutes := 0, blindMinutes := 0
    breakLate := false, peatGrant := false, setpoint := 0, gate := .closed, damperOpen := false }

/-! ### Peat Fire Arbiter (PFA) -/

/-- The peat fire record (R106); the peat settings are settings. -/
structure Peat where
  state : PeatState
  holder : Option KilnId
  asking : Vector Bool 2
  switchMinutes : Nat
  switchTime : Nat
  spellMinutes : Nat
  spellLength : Nat
  /-- the route commanded: NONE where absent -/
  route : Option KilnId
  /-- whether each kiln was requesting at the last plant-minute event (R115) -/
  requested : Vector Bool 2
deriving DecidableEq, Repr

def Peat.reset : Peat :=
  { state := .free, holder := none, asking := Vector.replicate 2 false, switchMinutes := 0, switchTime := 0, spellMinutes := 0
    spellLength := 0, route := none, requested := Vector.replicate 2 false }

/-! ### Sampler Unit (SMU) -/

/-- What a FILLED pot's record names (R117). -/
structure PotSample where
  lot : Nat
  point : Point
  number : Nat
deriving DecidableEq, Repr

/-- A pot record (R117). -/
structure Pot where
  state : PotState
  sample : Option PotSample
deriving DecidableEq, Repr

/-- A pending draw (R120). -/
structure PendingDraw where
  lot : Nat
  point : Point
deriving DecidableEq, Repr

/-- The draw in progress (R119). -/
structure Draw where
  lot : Nat
  point : Point
  pot : PotId
  minutes : Nat
deriving DecidableEq, Repr

/-- An open sample found by the start-up scan (R136); the position is the record's own byte. -/
structure OpenSample where
  lot : Nat
  point : Point
  position : Nat
  number : Nat
deriving DecidableEq, Repr

/-- The sampler record, the pending draws and the 24 pot records (R117, R119, R120); the mode is a setting. -/
structure Sampler where
  state : SamplerState
  /-- 0..24, 0 for none -/
  lastDrawn : Nat
  draw : Option Draw
  pending : List PendingDraw
  /-- DRAW at a position, or NONE -/
  command : Option PotId
  pots : Vector Pot 24
  /-- the open samples handed over by EXJ and not yet used by the rebuild (R137) -/
  openSamples : Option (List OpenSample)
deriving DecidableEq, Repr

def Pot.reset : Pot := { state := .absent, sample := none }

def Sampler.reset : Sampler :=
  { state := .rebuilding, lastDrawn := 0, draw := none, pending := [], command := none, pots := Vector.replicate 24 Pot.reset
    openSamples := none }

/-! ### Excise Journal (EXJ) -/

/-- A journal entry (R128). A field the kind does not carry is 0 or none, as its record stores it (R172). -/
structure Entry where
  number : Nat
  kind : EntryKind
  minute : Minute
  lot : Nat
  point : Option Point
  pot : Nat
  w : Nat
  mass : Nat
  peatGiven : Nat
  shortfall : Nat
  reason : Option MissedReason
  /-- the refers-to number of COLLECTED or the reference of MARK -/
  ref : Nat
  overMass : Bool
  atStartUp : Bool
deriving DecidableEq, Repr

/-- What waits to be written to the store: an entry (R130), or the base record with its oldest held number (R133). -/
inductive WriteItem where
  | entry (e : Entry)
  | base (oldest : Nat)
deriving DecidableEq, Repr

/-- The journal's record (R129 to R131). Held entries are the numbers from oldest up to, not including, next. -/
structure Journal where
  state : JournalState
  oldest : Nat
  next : Nat
  /-- the outstanding reservations (R129) -/
  reserved : Nat
  /-- the write queue, front first (R130) -/
  queue : List WriteItem
  /-- the write backlog behind it (R130) -/
  backlog : List WriteItem
  /-- whether a write of the front is under way at the store -/
  writing : Bool
  /-- cycle periods the write under way has taken (R130) -/
  writeCycles : Nat
  /-- whether STORE-FAULT stands (R130) -/
  fault : Bool
deriving DecidableEq, Repr

/-- The values of R131 and R130; the numbers are those of a new store until the scan finds others (R128). -/
def Journal.reset : Journal :=
  { state := .scanning, oldest := 1, next := 1, reserved := 0, queue := [], backlog := [], writing := false, writeCycles := 0
    fault := false }

/-! ### Alarm List (ALM) -/

/-- A condition: a source and a kind (R138). -/
structure Condition where
  source : Source
  kind : AlarmKind
deriving DecidableEq, Repr

/-- An entry of the alarm list (R139); its category is its kind's. -/
structure AlarmEntry where
  source : Source
  kind : AlarmKind
  raised : Minute
  state : AlarmState
deriving DecidableEq, Repr

/-- The standing set, the alarm list, the overflow flag and the horn record (R138, R139, R145). -/
structure Alarms where
  standing : List Condition
  entries : List AlarmEntry
  overflow : Bool
  horn : HornState
  hornMinutes : Nat
  hornLength : Nat
deriving DecidableEq, Repr

def Alarms.reset : Alarms :=
  { standing := [], entries := [], overflow := false, horn := .idle, hornMinutes := 0, hornLength := 0 }

/-! ### Field Link Head (FLH) -/

/-- A roster entry (R150). Its bound place is the binding table's, its slot lists the plan's. -/
structure RosterEntry where
  position : Nat
  kind : StationKind
  serial : Serial
  state : StationState
  offset : Int
  failCount : Nat
deriving DecidableEq, Repr

/-- An entry of the reading image (R149). -/
structure ImageEntry where
  serial : Serial
  reading : Reading
  value : Option Int
  age : Nat
  /-- the model's own: given a value in the present cycle period, whose end leaves the age at 0 -/
  fed : Bool
deriving DecidableEq, Repr

/-- What an announcement gives one planned station (R154). -/
structure Announced where
  position : Nat
  serial : Serial
  ups : List Slot
  downs : List Command
  deadline : Option Int
deriving DecidableEq, Repr

/-- One command slot of a downstream burst, FULL as every command travels: the 16-bit value and its parity bit (R152). -/
structure CommandSlot where
  command : Command
  value : BitVec 16
  parity : Bool
deriving DecidableEq, Repr

/-- The command slots of one planned station in a downstream burst (R155). -/
structure StationCommands where
  position : Nat
  commands : List CommandSlot
deriving DecidableEq, Repr

/-- The downstream burst of a cycle period (R151, R154, R155, R157). -/
inductive SentBurst where
  | none
  | probe (position : Nat) (expected : Int)
  | announcement (stations : List Announced)
  | run (group : Nat) (commands : List StationCommands)
  /-- a tried cycle; the commands are absent where no plan is in force -/
  | tried (stations : List Announced) (group : Nat) (commands : Option (List StationCommands))
deriving DecidableEq, Repr

/-- The link record, the roster and the reading image (R148 to R150); the held plan, the binding table and the
auto-roll-call flag are settings. -/
structure Link where
  state : LinkState
  cycleCount : BitVec 32
  /-- the plan in force -/
  force : Option Plan
  /-- whether an announcement of the held plan waits to be accepted (R154) -/
  announcing : Bool
  /-- E, the expected turnaround offset -/
  expected : Option Int
  missed : Nat
  retry : Nat
  shortPosition : Option Nat
  duplicates : Nat
  roster : List RosterEntry
  image : List ImageEntry
  /-- the burst sent in the present cycle period -/
  sent : SentBurst
  /-- whether what came back in this period has been judged -/
  returned : Bool
  /-- the position the roll call probes, and its unanswered probes in a row (R151) -/
  probePosition : Nat
  unanswered : Nat
  /-- whether the roll call under way was begun by a reset (R160) -/
  startUpRoll : Bool
deriving DecidableEq, Repr

/-- The link right after a reset, before R160's automatic roll call. -/
def Link.reset : Link :=
  { state := .idle, cycleCount := 0, force := none, announcing := false, expected := none, missed := 0, retry := 0
    shortPosition := none, duplicates := 0, roster := [], image := [], sent := .none, returned := false, probePosition := 1
    unanswered := 0, startUpRoll := false }

/-! ### Plant Message Port (PMP) -/

/-- One field of a reply, with the size 12.1 gives it. -/
inductive Fld where
  /-- 1 byte -/
  | b (n : Nat)
  /-- 2 bytes, signed quantities in two's complement -/
  | h (z : Int)
  /-- 4 bytes -/
  | w (n : Nat)
deriving DecidableEq, Repr

/-- A reply: DONE with its fields, or REFUSED with a reason (R164). -/
inductive Reply where
  | done (fields : List Fld)
  | refused (reason : Reason)
deriving DecidableEq, Repr

/-- The payload of a notice (12.3); states are their codes of 12.1. -/
inductive NoticeBody where
  | alarmRaised (source : Source) (kind : AlarmKind) (raised : Minute)
  | alarmCleared (source : Source) (kind : AlarmKind)
  | stateChange (subject : Subject) (left entered : Nat)
  | peatChange (left entered : PeatState) (holderLeft holderEntered : Option KilnId)
  | transferDone (lot : Nat) (source : Vessel) (dest : Place) (entry : Nat)
  | journalEntry (number : Nat) (kind : EntryKind) (lot : Nat)
  | linkState (left entered : LinkState)
  | saveDone (ok : Bool)
deriving DecidableEq, Repr

/-- A queued notice (11.4). -/
structure Notice where
  number : BitVec 16
  minute : Minute
  body : NoticeBody
deriving DecidableEq, Repr

/-- How far a RESTART has come (R169). -/
inductive RestartStage where
  /-- none under way -/
  | none
  /-- accepted, its reply being sent -/
  | replying
  /-- no frame is taken, the journal write path is being emptied -/
  | draining
deriving DecidableEq, Repr

/-- The port's record (R162 to R169). -/
structure Port where
  rx : RxState
  rxLength : Nat
  rxKind : Byte
  rxPayload : List Byte
  rxCheck : List Byte
  state : PortState
  /-- the reply being sent and the kind of the request it answers; present in ANSWERING -/
  reply : Option (Byte × Reply)
  badFrames : Nat
  discarded : Nat
  notices : List Notice
  noticeNumber : BitVec 16
  noticeOverflow : Bool
  defaultsInUse : Bool
  /-- the copy of the settings a save under way writes; save-busy is its presence (R168) -/
  saving : Option Settings
  lastReset : ResetCause
  restart : RestartStage
deriving DecidableEq, Repr

/-- The port right after a reset, before its first notice. -/
def Port.reset (cause : ResetCause) (defaults : Bool) : Port :=
  { rx := .hunt, rxLength := 0, rxKind := 0, rxPayload := [], rxCheck := [], state := .ready, reply := none, badFrames := 0
    discarded := 0, notices := [], noticeNumber := 0, noticeOverflow := false, defaultsInUse := defaults, saving := none
    lastReset := cause, restart := .none }

/-- The settings EEPROM (R173): the length in bytes 0 and 1, the body in bytes 2 to L − 1 as the settings it holds, and the check in
bytes L and L + 1. Which bytes the settings make is Config.openBody (log 46). -/
structure Eeprom where
  header : BitVec 16
  body : Settings
  check : BitVec 16
deriving DecidableEq, Repr

/-- An EEPROM nothing has been saved to: every byte erased (log 6). -/
def Eeprom.blank : Eeprom := { header := 0xFFFF#16, body := Settings.default, check := 0xFFFF#16 }

/-! ### The whole -/

/-- The part, its two external stores, and the queue of commands waiting. -/
structure State where
  /-- whether power is applied -/
  powered : Bool
  /-- whether the reset input is asserted -/
  inReset : Bool
  settings : Settings
  clock : Clock
  /-- the live lot records, in ascending lot number -/
  lots : List Lot
  steeps : Vector Steep 6
  water : Water
  boxes : Vector Box 8
  turner : Turner
  kilns : Vector Kiln 2
  peat : Peat
  sampler : Sampler
  journal : Journal
  /-- the journal store, byte by byte (R172), in the canonical form of Machine/Store.lean -/
  store : List Host.Cell
  alarms : Alarms
  link : Link
  port : Port
  eeprom : Eeprom
  /-- the model's own: how many free values have been taken -/
  freeTaken : Nat
  /-- the model's own: the commands waiting, first in, first out -/
  pending : List Instr
deriving DecidableEq, Repr

/-- The notices a first POWER-ON queues: PORT's own (R165), and the link's entry into ROLL-CALL (R148, R160). -/
def State.resetNotices : List Notice :=
  [{ number := 0, minute := 0, body := .stateChange .port 0 1 },
   { number := 1, minute := 0, body := .linkState .idle .rollCall }]

/-- The machine right after a first POWER-ON (00_scope 4.7): a new journal store and a blank EEPROM, so every setting at its
default and defaults-in-use set (R167), the journal SCANNING (R131), the sampler REBUILDING (R119), and the automatic roll
call begun (R160). -/
def State.reset : State :=
  { powered := true
    inReset := false
    settings := Settings.default
    clock := { minutes := 0, isSet := false }
    lots := []
    steeps := Vector.replicate 6 Steep.reset
    water := Water.reset 10 40000
    boxes := Vector.replicate 8 Box.reset
    turner := Turner.reset
    kilns := Vector.replicate 2 Kiln.reset
    peat := Peat.reset
    sampler := Sampler.reset
    journal := Journal.reset
    store := []
    alarms := Alarms.reset
    link := { Link.reset with state := .rollCall, startUpRoll := true }
    port := { Port.reset .powerOn true with notices := State.resetNotices, noticeNumber := 2 }
    eeprom := Eeprom.blank
    freeTaken := 0
    pending := [] }

end Sys2Proof.Machine
end

