-- ==== Sys2Proof/Machine/Store.lean ====
section
/-! DEFINITION. The journal store as memory: bytes at addresses 0 to 131,103 (R172: 4,097 record places of 32 bytes), held as a
list of address and byte pairs in one canonical form. An address that is not listed reads 0xFF, as an erased place does (R172). -/

namespace Sys2Proof.Machine.Store

/-- What an address that is not listed reads as: the byte JOURNAL-FORMAT erases with (R172); a new store is taken as erased
(log 6). -/
def erased : Byte := 0xFF#8

/-- Record places of the store (8.8): the base place and 4,096 entry places. -/
def places : Nat := 4097

/-- The addresses of the store. -/
def size : Nat := 32 * places

/-- The byte at an address. -/
def read : List Host.Cell → Nat → Byte
  | [], _ => erased
  | (k, b) :: rest, a => if a < k then erased else if a = k then b else read rest a

/-- The store with one byte written: listed where it is not what an unlisted address reads as. -/
def write : List Host.Cell → Nat → Byte → List Host.Cell
  | [], a, v => if v = erased then [] else [(a, v)]
  | (k, b) :: rest, a, v =>
    if a < k then (if v = erased then (k, b) :: rest else (a, v) :: (k, b) :: rest)
    else if a = k then (if v = erased then rest else (a, v) :: rest)
    else (k, b) :: write rest a v

/-- The canonical form above a lower bound: addresses strictly rising from it and below the store's end, no erased byte
listed. -/
def wfFrom : Nat → List Host.Cell → Bool
  | _, [] => true
  | lo, (k, b) :: rest => decide (lo ≤ k) && decide (k < size) && decide (b ≠ erased) && wfFrom (k + 1) rest

/-- The canonical form. -/
def wf (m : List Host.Cell) : Bool := wfFrom 0 m

/-- The store with a run of bytes written from an address upward. -/
def writeBytes : List Host.Cell → Nat → List Byte → List Host.Cell
  | m, _, [] => m
  | m, a, b :: rest => writeBytes (write m a b) (a + 1) rest

/-- The 32 bytes of a record place (R172: byte address 32 × p). -/
def record (m : List Host.Cell) (p : Nat) : List Byte :=
  (List.range 32).map fun i => read m (32 * p + i)

/-- A record as 32 bytes: cut or filled up with erased bytes. -/
def fit (bytes : List Byte) : List Byte := (bytes ++ List.replicate 32 erased).take 32

/-- The store with a record place written. A place outside the store is no place (8.8). -/
def writeRecord (m : List Host.Cell) (p : Nat) (bytes : List Byte) : List Host.Cell :=
  if p < places then writeBytes m (32 * p) (fit bytes) else m

/-- The record places that hold a byte other than an erased one, in rising order. -/
def usedPlaces (m : List Host.Cell) : List Nat := (m.map fun c => c.1 / 32).eraseDups

/-- The store with the first entry places erased, as a format that goes on or is cut off leaves it (R135). That the places are erased
whole and by ascending place is the model's choice (log 67). -/
def eraseUpTo (m : List Host.Cell) (n : Nat) : List Host.Cell :=
  m.filter fun c => decide (c.1 < 32) || decide (32 * (n + 1) ≤ c.1)

end Sys2Proof.Machine.Store
end

