-- ==== Sys2Proof/Machine/Records.lean ====
section
/-! DEFINITION. Bytes: the CRC-16 of R170, numbers most significant byte first (12.1), and the 32-byte records of the journal
store (R172), written and read. -/

namespace Sys2Proof.Machine

/-! ### The check (R170) -/

/-- One bit of the CRC-16 with polynomial 0x1021, most significant bit first. -/
def crcBit (c : BitVec 16) : BitVec 16 :=
  if c.msb then (c <<< 1) ^^^ 0x1021#16 else c <<< 1

/-- One byte of the CRC-16. -/
def crcByte (c : BitVec 16) (b : Byte) : BitVec 16 :=
  Nat.repeat crcBit 8 (c ^^^ (b.zeroExtend 16 <<< 8))

/-- The CRC-16 of R170 over a run of bytes: start value 0xFFFF, the result not inverted. -/
def crc16 (bytes : List Byte) : BitVec 16 := bytes.foldl crcByte 0xFFFF#16

/-! ### Numbers as bytes (12.1) -/

/-- The low bytes of a number, most significant first. -/
def toBytes : Nat → Nat → List Byte
  | 0, _ => []
  | size + 1, n => BitVec.ofNat 8 (n / 256 ^ size) :: toBytes size n

/-- The number a run of bytes spells, most significant first. -/
def ofBytes (bytes : List Byte) : Nat := bytes.foldl (fun n b => n * 256 + b.toNat) 0

/-- The two check bytes of a run, high byte first. -/
def checkBytes (bytes : List Byte) : List Byte := toBytes 2 (crc16 bytes).toNat

/-! ### The settings image (R173) -/

/-- Bytes 0 to L − 1 of an image: the length and the body. -/
def imageBytes (header : BitVec 16) (body : Settings) : List Byte := toBytes 2 header.toNat ++ (Config.openBody body).toList

/-- What a save that ends well leaves: the part's length, the settings and their check (R168, R173). -/
def Eeprom.saved (x : Settings) : Eeprom :=
  let header := BitVec.ofNat 16 Config.imageLength
  { header, body := x, check := crc16 (imageBytes header x) }

/-- Whether the settings image is usable: the device answers, the header holds the part's length, and the check over that length
matches (R167, R173). -/
def Eeprom.usable (e : Eeprom) (answers : Bool) : Bool :=
  answers && decide (e.header.toNat = Config.imageLength) && decide (e.check = crc16 (imageBytes e.header e.body))

/-! ### Journal records (R172) -/

/-- The record place of an entry number. -/
def Entry.place (number : Nat) : Nat := 1 + (number - 1) % Config.journalCapacity

def flagValue (b : Bool) (n : Nat) : Nat := if b then n else 0

/-- Bytes 0..29 of an entry's record. -/
def Entry.body (e : Entry) : List Byte :=
  toBytes 4 e.number ++ toBytes 1 e.kind.code ++ toBytes 1 (flagValue e.overMass 1 + flagValue e.atStartUp 2) ++
  toBytes 4 e.minute.toNat ++ toBytes 2 e.lot ++ toBytes 1 (e.point.elim 0 Point.code) ++ toBytes 1 e.pot ++
  toBytes 2 e.w ++ toBytes 2 e.mass ++ toBytes 2 e.peatGiven ++ toBytes 2 e.shortfall ++
  toBytes 1 (e.reason.elim 0 MissedReason.code) ++ [0#8] ++ toBytes 4 e.ref ++ [0#8, 0#8]

/-- The 32 bytes of an entry's record. -/
def Entry.record (e : Entry) : List Byte := e.body ++ checkBytes e.body

/-- Bytes 0..29 of the base record: the oldest held number and kind code 0x80. An oldest number of 4,294,967,296, which stands when
every number is used and released, is written modulo 2^32, as 0 (the model's choice, log 56). -/
def baseBody (oldest : Nat) : List Byte := toBytes 4 oldest ++ [0x80#8] ++ List.replicate 25 0#8

/-- The 32 bytes of the base record. -/
def baseRecord (oldest : Nat) : List Byte := baseBody oldest ++ checkBytes (baseBody oldest)

/-- Whether a record's check matches. -/
def recordCheck (bytes : List Byte) : Bool := bytes.drop 30 == checkBytes (bytes.take 30)

/-- The entry a record holds, where the record is good: the kind code is 1..6 and the check matches (R172). -/
def Entry.ofRecord? (bytes : List Byte) : Option Entry :=
  let at_ := fun (i n : Nat) => ofBytes ((bytes.drop i).take n)
  match EntryKind.ofCode? (at_ 4 1) with
  | none => none
  | some kind =>
    if recordCheck bytes then
      some { number := at_ 0 4, kind, minute := BitVec.ofNat 32 (at_ 6 4), lot := at_ 10 2, point := Point.ofCode? (at_ 12 1)
             pot := at_ 13 1, w := at_ 14 2, mass := at_ 16 2, peatGiven := at_ 18 2, shortfall := at_ 20 2
             reason := MissedReason.ofCode? (at_ 22 1), ref := at_ 24 4, overMass := at_ 5 1 % 2 == 1
             atStartUp := at_ 5 1 / 2 % 2 == 1 }
    else none

/-- The oldest held number of a good base record (R172). -/
def baseOfRecord? (bytes : List Byte) : Option Nat :=
  if bytes.drop 4 |>.head? |>.any (· == 0x80#8) then
    if recordCheck bytes then some (ofBytes (bytes.take 4)) else none
  else none

/-- The place and the bytes of what waits to be written. -/
def WriteItem.place : WriteItem → Nat
  | .entry e => Entry.place e.number
  | .base _ => 0

def WriteItem.record : WriteItem → List Byte
  | .entry e => e.record
  | .base oldest => baseRecord oldest

end Sys2Proof.Machine
end

