-- ==== Sys2Proof/Machine/Ops.lean ====
section
/-! DEFINITION. The named operations every block shares: access to the parts of State, notices (R165), the Alarm List and the
horn (R138 to R145), the lot table (R4, R5), and the reading image as the blocks see it (R149). -/

namespace Sys2Proof.Machine

/-! ### Access to the parts of State -/

namespace State

/-- Power is applied and the reset input is not asserted: the part runs (R1). -/
def running (s : State) : Bool := s.powered && !s.inReset

def withSettings (s : State) (x : Settings) : State := { s with settings := x }
def withClock (s : State) (x : Clock) : State := { s with clock := x }
def withLots (s : State) (x : List Lot) : State := { s with lots := x }
def withWater (s : State) (x : Water) : State := { s with water := x }
def withTurner (s : State) (x : Turner) : State := { s with turner := x }
def withPeat (s : State) (x : Peat) : State := { s with peat := x }
def withSampler (s : State) (x : Sampler) : State := { s with sampler := x }
def withJournal (s : State) (x : Journal) : State := { s with journal := x }
def withStore (s : State) (x : List Host.Cell) : State := { s with store := x }
def withAlarms (s : State) (x : Alarms) : State := { s with alarms := x }
def withLink (s : State) (x : Link) : State := { s with link := x }
def withPort (s : State) (x : Port) : State := { s with port := x }
def withEeprom (s : State) (x : Eeprom) : State := { s with eeprom := x }
def withFreeTaken (s : State) (x : Nat) : State := { s with freeTaken := x }

/-- A steep's vessel record. -/
def steep (s : State) (v : SteepId) : Steep := s.steeps[v]
def withSteep (s : State) (v : SteepId) (x : Steep) : State := { s with steeps := s.steeps.set v x }
/-- A box's record. -/
def box (s : State) (b : BoxId) : Box := s.boxes[b]
def withBox (s : State) (b : BoxId) (x : Box) : State := { s with boxes := s.boxes.set b x }
/-- A kiln's record. -/
def kiln (s : State) (k : KilnId) : Kiln := s.kilns[k]
def withKiln (s : State) (k : KilnId) (x : Kiln) : State := { s with kilns := s.kilns.set k x }
/-- A pot's record. -/
def pot (s : State) (p : PotId) : Pot := s.sampler.pots[p]
def withPot (s : State) (p : PotId) (x : Pot) : State :=
  s.withSampler { s.sampler with pots := s.sampler.pots.set p x }

/-- The receiver of a port back in HUNT with nothing gathered (R162). -/
def hunted (x : Port) : Port :=
  { x with rx := .hunt, rxLength := 0, rxKind := 0, rxPayload := [], rxCheck := [] }

/-- The current plant minute (R2). -/
def now (s : State) : Minute := s.clock.minutes

/-- The settings of a box and the program of a kiln or a steep as they stand. -/
def boxSettings (s : State) (b : BoxId) : BoxSettings := s.settings.boxes[b]
def kilnProgram (s : State) (k : KilnId) : KilnProgram := s.settings.kilns[k]
def steepProgram (s : State) (v : SteepId) : SteepProgram := s.settings.steepPrograms[v]

end State

/-! ### Notices (R165) -/

/-- The kind of a notice. -/
def NoticeBody.kind : NoticeBody → NoticeKind
  | .alarmRaised .. => .alarmRaised
  | .alarmCleared .. => .alarmCleared
  | .stateChange .. => .stateChange
  | .peatChange .. => .stateChange
  | .transferDone .. => .transferDone
  | .journalEntry .. => .journalEntry
  | .linkState .. => .linkState
  | .saveDone .. => .saveDone

/-- A notice is raised: dropped where its kind is disabled; otherwise it takes a number, and joins the queue or is lost to a
full one (R165). -/
def State.notify (s : State) (body : NoticeBody) : State :=
  if s.settings.noticeMask[body.kind.index] then
    if s.port.notices.length < Config.noticeCapacity then
      s.withPort { s.port with
        notices := s.port.notices ++ [{ number := s.port.noticeNumber, minute := s.now, body }]
        noticeNumber := s.port.noticeNumber + 1 }
    else s.withPort { s.port with noticeNumber := s.port.noticeNumber + 1, noticeOverflow := true }
  else s

/-- A STATE-CHANGE notice, where the state changed. -/
def State.notifyChange (s : State) (subject : Subject) (left entered : Nat) : State :=
  if left = entered then s else s.notify (.stateChange subject left entered)

/-! ### The horn (R145) -/

/-- Whether a category is horn-enabled (R146). -/
def State.hornEnabled (s : State) (c : Category) : Bool := s.settings.horn.enables[c.index]

/-- Whether the list holds an unacknowledged entry in a horn-enabled category (R145). -/
def State.hornDemand (s : State) : Bool :=
  s.alarms.entries.any fun e => decide (e.state ≠ .activeAck) && s.hornEnabled e.kind.category

/-- The horn enters ON with its count at 0 and Hon taken in force (R145). -/
def State.hornStart (s : State) : State :=
  s.withAlarms { s.alarms with horn := .on, hornMinutes := 0, hornLength := s.settings.horn.hon }

/-- The test of the demand made after every change of the list (R145). -/
def State.hornTest (s : State) : State :=
  if s.hornDemand then (if s.alarms.horn = .idle then s.hornStart else s)
  else s.withAlarms { s.alarms with horn := .idle, hornMinutes := 0 }

/-! ### The Alarm List (R138 to R144) -/

/-- Whether the enable for a source and category stands enabled (R140). -/
def State.alarmEnabled (s : State) (source : Source) (c : Category) : Bool :=
  !(s.settings.disabledAlarms.contains (source, c))

/-- Whether an entry is that of a source and kind. -/
def AlarmEntry.names (e : AlarmEntry) (source : Source) (kind : AlarmKind) : Bool :=
  e.source == source && e.kind == kind

/-- The entry of a source and kind; the list holds at most one (R139). -/
def State.alarmEntry? (s : State) (source : Source) (kind : AlarmKind) : Option AlarmEntry :=
  s.alarms.entries.find? (·.names source kind)

/-- The list without the CLEARED-UNACK entry nearest the front (R144). -/
def evictCleared : List AlarmEntry → List AlarmEntry
  | [] => []
  | e :: rest => if e.state = .clearedUnack then rest else e :: evictCleared rest

/-- What a new alarm does beyond the list: its notice, and the horn restarted where its category is horn-enabled (R141). -/
def State.newAlarm (s : State) (source : Source) (kind : AlarmKind) : State :=
  let s := s.notify (.alarmRaised source kind s.now)
  if s.hornEnabled kind.category then s.hornStart else s.hornTest

/-- The entry a new alarm puts at the back of the list. -/
def State.freshEntry (s : State) (source : Source) (kind : AlarmKind) : AlarmEntry :=
  { source, kind, raised := s.now, state := .activeUnack }

/-- A new entry is made: at the back, with an eviction from a full list where there is one to evict, or lost (R141, R144). -/
def State.enterAlarm (s : State) (source : Source) (kind : AlarmKind) : State :=
  if s.alarms.entries.length < Config.alarmCapacity then
    (s.withAlarms { s.alarms with entries := s.alarms.entries ++ [s.freshEntry source kind] }).newAlarm source kind
  else if s.alarms.entries.any (fun e => decide (e.state = .clearedUnack)) then
    (s.withAlarms { s.alarms with
      entries := evictCleared s.alarms.entries ++ [s.freshEntry source kind] }).newAlarm source kind
  else s.withAlarms { s.alarms with overflow := true }

/-- An arising is handled in the list (R141): the condition's enable stands enabled. -/
def State.arise (s : State) (source : Source) (kind : AlarmKind) : State :=
  match s.alarmEntry? source kind with
  | none => s.enterAlarm source kind
  | some e =>
    if e.state = .clearedUnack then
      (s.withAlarms { s.alarms with
        entries := s.alarms.entries.filter (fun x => !(x.names source kind)) ++ [s.freshEntry source kind] }).newAlarm
          source kind
    else s

/-- A condition is reported raised (R141): the standing set first, then the list by the table of R141. -/
def State.raise (s : State) (source : Source) (kind : AlarmKind) : State :=
  let repeated := s.alarms.standing.contains ⟨source, kind⟩
  let s := if repeated then s else s.withAlarms { s.alarms with standing := s.alarms.standing ++ [⟨source, kind⟩] }
  if s.alarmEnabled source kind.category then
    if repeated then (if (s.alarmEntry? source kind).isNone then s.enterAlarm source kind else s)
    else s.arise source kind
  else s

/-- A condition is reported ended (R142). A report for a condition not in the set changes nothing (R138). -/
def State.ended (s : State) (source : Source) (kind : AlarmKind) : State :=
  if s.alarms.standing.contains ⟨source, kind⟩ then
    let s := s.withAlarms { s.alarms with standing := s.alarms.standing.filter (· != ⟨source, kind⟩) }
    match s.alarmEntry? source kind with
    | none => s
    | some e =>
      match e.state with
      | .clearedUnack => s
      | .activeAck =>
        ((s.withAlarms { s.alarms with entries := s.alarms.entries.filter fun x => !(x.names source kind) }).notify
          (.alarmCleared source kind)).hornTest
      | .activeUnack =>
        ((s.withAlarms { s.alarms with
            entries := s.alarms.entries.map fun x => if x.names source kind then { x with state := .clearedUnack } else x }).notify
          (.alarmCleared source kind)).hornTest
  else s

/-- Whether a condition stands. -/
def State.stands (s : State) (source : Source) (kind : AlarmKind) : Bool :=
  s.alarms.standing.contains ⟨source, kind⟩

/-! ### The lot table (R4, R5) -/

/-- The stage of a lot (R3). -/
def Lot.stage (l : Lot) : Stage := Stage.ofVessel l.place

namespace State

/-- The live lot of a number. -/
def lot? (s : State) (n : Nat) : Option Lot := s.lots.find? (·.number == n)

/-- The lot whose place is the vessel: the lot its block acts on. -/
def lotAt? (s : State) (p : Vessel) : Option Lot := s.lots.find? (·.place == p)

/-- The lot that occupies a vessel, as its place or as the destination of its transfer (R5). -/
def occupant? (s : State) (p : Vessel) : Option Lot :=
  s.lots.find? fun l => l.place == p || l.transfer.any fun t => t.dest == .vessel p

/-- One lot's record changed. -/
def modLot (s : State) (n : Nat) (f : Lot → Lot) : State :=
  s.withLots (s.lots.map fun l => if l.number = n then f l else l)

/-- The record of the lot at a vessel changed. -/
def modLotAt (s : State) (p : Vessel) (f : Lot → Lot) : State :=
  s.withLots (s.lots.map fun l => if l.place = p then f l else l)

end State

/-- A record put in its place by lot number. -/
def insertLot (l : Lot) : List Lot → List Lot
  | [] => [l]
  | x :: rest => if l.number < x.number then l :: x :: rest else x :: insertLot l rest

/-- A 32-bit count of minutes, one more (R3); past its largest value it is open (log 4). -/
def countUp (n : Nat) : Nat :=
  if n + 1 < 4294967296 then n + 1 else (Config.openCount n).toNat

/-! ### The readings as the blocks see them (R149) -/

namespace State

/-- The serial bound to a site (R150). -/
def serialOf? (s : State) (x : Site) : Option Serial := s.settings.bindings[x.index]

/-- The reading image's entry for a reading of the station bound to a site. -/
def imageEntry? (s : State) (x : Site) (r : Reading) : Option ImageEntry :=
  match s.serialOf? x with
  | none => none
  | some n => s.link.image.find? fun e => e.serial == n && e.reading == r

/-- The latest held value, fresh or not. -/
def held? (s : State) (x : Site) (r : Reading) : Option Int :=
  (s.imageEntry? x r).bind (·.value)

/-- The held value where the entry is fresh: it holds a value of age at most 150 (R149). -/
def fresh? (s : State) (x : Site) (r : Reading) : Option Int :=
  match s.imageEntry? x r with
  | none => none
  | some e => if e.age ≤ Config.freshLimit then e.value else none

/-- Whether a reading is fresh. -/
def isFresh (s : State) (x : Site) (r : Reading) : Bool := (s.fresh? x r).isSome

/-- A reading arrives for the station bound to a site: its entry, where the image holds one, takes the value with age 0. -/
def arrive (s : State) (x : Site) (r : Reading) (value : Int) : State :=
  match s.serialOf? x with
  | none => s
  | some n =>
    s.withLink { s.link with image := s.link.image.map fun e =>
      if e.serial = n ∧ e.reading = r then { e with value := some value, age := 0, fed := true } else e }

end State

/-- The site of a vessel's station. -/
abbrev steepSite (v : SteepId) : Site := .vessel (.steep v)
abbrev boxSite (b : BoxId) : Site := .vessel (.box b)
abbrev kilnSite (k : KilnId) : Site := .vessel (.kiln k)

namespace State

/-- The level state of a steep, where fresh (R23). -/
def level? (s : State) (v : SteepId) : Option Level := (s.fresh? (steepSite v) .level).bind Level.ofCode?

/-- The motion and the position of the turner, where fresh (R70). -/
def motion? (s : State) : Option Motion := (s.fresh? .turner .motion).bind Motion.ofCode?
def position? (s : State) : Option RailPos := (s.fresh? .turner .position).bind RailPos.ofCode?

/-- The fire state and the route of the peat station, where fresh (R105). -/
def fire? (s : State) : Option Fire := (s.fresh? .peat .fireState).bind Fire.ofCode?
def route? (s : State) : Option RouteReading := (s.fresh? .peat .route).bind RouteReading.ofCode?

/-- The burner state of a kiln, where fresh (R98). -/
def burner? (s : State) (k : KilnId) : Option Burner := (s.fresh? (kilnSite k) .burner).bind Burner.ofCode?

/-- The 24 positions of the carousel as the presence masks show them, where both are fresh (R137). -/
def presence? (s : State) : Option (Vector Bool 24) :=
  match (s.fresh? .sampler .presenceLow).bind presenceMask?, (s.fresh? .sampler .presenceHigh).bind presenceMask? with
  | some low, some high => some (Vector.ofFn fun i =>
      if i.val < 12 then low.getLsbD i.val else high.getLsbD (i.val - 12))
  | _, _ => none

/-- Whether a vessel's bed state is fresh and reads EMPTY (R15); a steep's bed state is its level state (R23). -/
def bedEmpty (s : State) (p : Vessel) : Bool :=
  match p with
  | .steep v => s.level? v == some .empty
  | .box b => (s.fresh? (boxSite b) .boxBed).bind Bed.ofCode? == some .empty
  | .kiln k => (s.fresh? (kilnSite k) .kilnBed).bind Bed.ofCode? == some .empty

/-- Whether a vessel's bed state is fresh and reads LOADED (R20); a steep's level state has no such value. -/
def bedLoaded (s : State) (p : Vessel) : Bool :=
  match p with
  | .steep _ => false
  | .box b => (s.fresh? (boxSite b) .boxBed).bind Bed.ofCode? == some .loaded
  | .kiln k => (s.fresh? (kilnSite k) .kilnBed).bind Bed.ofCode? == some .loaded

end State

end Sys2Proof.Machine
end

