-- ==== Sys2Proof/Machine/Flags.lean ====
section
/-! DEFINITION. What follows from the state without being held in it: the two output lines, the flags STATUS reports, and the
journal's counts and room (R129, R145, R165, R166). -/

namespace Sys2Proof.Machine.State

/-- The attention line is asserted while the notice queue holds a notice (R165). -/
def attention (s : State) : Bool := !s.port.notices.isEmpty

/-- The horn line is driven in state ON (R145). -/
def hornLine (s : State) : Bool := s.alarms.horn == .on

/-- The save-busy flag (R168). -/
def saveBusy (s : State) : Bool := s.port.saving.isSome

/-- Entries held: numbered and not released (R129). -/
def heldCount (s : State) : Nat := s.journal.next - s.journal.oldest

/-- Room: 4,096 less the held entries less the outstanding reservations (R129). -/
def room (s : State) : Nat := Config.journalCapacity - s.heldCount - s.journal.reserved

/-- The room offered to a request (R129). -/
def roomOffered (s : State) : Nat :=
  if s.journal.state = .running ∧ s.journal.fault = false then
    min s.room (Config.numberLimit - s.journal.next - s.journal.reserved)
  else 0

/-- What waits to be written to the store, oldest first (R130). -/
def writePath (s : State) : List WriteItem := s.journal.queue ++ s.journal.backlog

/-- The number of the oldest entry not yet stored, or the next number (R130). -/
def firstUnstored (s : State) : Nat :=
  (s.writePath.findSome? fun i => match i with | .entry e => some e.number | .base _ => none).getD s.journal.next

/-- The newest stored number, where an entry is stored (R132). A released entry no longer counts as stored, so that once every stored entry
has been released there is none and JOURNAL-READ sends 0, the model's choice (log 70). JOURNAL-RELEASE is refused with RANGE then in
either reading (R133). -/
def newestStored? (s : State) : Option Nat :=
  if s.journal.oldest < s.firstUnstored then some (s.firstUnstored - 1) else none

/-- The number of FILLED pots (R117). -/
def filledPots (s : State) : Nat := s.sampler.pots.toList.countP (·.state == .filled)

end Sys2Proof.Machine.State
end

