-- ==== Sys2Proof/Machine/JournalOps.lean ====
section
/-! DEFINITION. The Excise Journal's operations: numbering, reservations, the write path, the store's answers, and the reading of
the store at start-up (R128 to R136). -/

namespace Sys2Proof.Machine

/-! ### Room and reservations (R129) -/

/-- The tests of JOURNAL-NEAR-FULL and of the end of JOURNAL-FULL, made after every change of the counts (R129). -/
def State.journalTest (s : State) : State :=
  let s :=
    if 3840 ≤ s.heldCount + s.journal.reserved then
      (if s.stands .journal .journalNearFull then s else s.raise .journal .journalNearFull)
    else s.ended .journal .journalNearFull
  if 3 ≤ s.room then s.ended .journal .journalFull else s

/-- Reservations taken from the room (R129). -/
def State.reserve (s : State) (k : Nat) : State :=
  (s.withJournal { s.journal with reserved := s.journal.reserved + k }).journalTest

/-- Reservations returned to the room (R129). -/
def State.returnReservations (s : State) (k : Nat) : State :=
  (s.withJournal { s.journal with reserved := s.journal.reserved - k }).journalTest

/-- A request found too little room (R129): JOURNAL-FULL is raised where the journal is RUNNING with no STORE-FAULT. Where the limit of
the numbers alone made it too little and the room is 3 or more, the condition stands until the next change of the counts, the model's
choice (log 58). -/
def State.journalFull (s : State) : State :=
  if s.journal.state = .running ∧ s.journal.fault = false then s.raise .journal .journalFull else s

/-! ### The write path (R130) -/

/-- The entries among what waits in the write queue: the base record takes none of its 8 places. -/
def entryCount (q : List WriteItem) : Nat :=
  q.countP fun i => match i with | .entry _ => true | .base _ => false

/-- Whether an item may join a write queue. -/
def mayQueue (q : List WriteItem) (i : WriteItem) : Bool :=
  match i with
  | .entry _ => decide (entryCount q < Config.writeQueueCapacity)
  | .base _ => true

/-- The queue and the backlog after items moved up as places came free. -/
def refill (q : List WriteItem) : List WriteItem → List WriteItem × List WriteItem
  | [] => (q, [])
  | i :: rest => if mayQueue q i then refill (q ++ [i]) rest else (q, i :: rest)

/-- A write of the front is begun, unless one is under way or STORE-FAULT leaves it to the next minute (R130). -/
def State.beginWrite (s : State) : State :=
  if s.journal.writing || s.journal.fault || s.journal.queue.isEmpty then s
  else s.withJournal { s.journal with writing := true, writeCycles := 0 }

/-- An item joins the write path behind what is already in it (R130, R133). -/
def State.enqueueWrite (s : State) (i : WriteItem) : State :=
  (if s.journal.backlog.isEmpty && mayQueue s.journal.queue i then
    s.withJournal { s.journal with queue := s.journal.queue ++ [i] }
  else s.withJournal { s.journal with backlog := s.journal.backlog ++ [i] }).beginWrite

/-! ### Numbering (R128) -/

/-- An entry of a kind with every other field absent. -/
def Entry.blank (kind : EntryKind) (lot : Nat) : Entry :=
  { number := 0, kind, minute := 0, lot, point := none, pot := 0, w := 0, mass := 0, peatGiven := 0, shortfall := 0
    reason := none, ref := 0, overMass := false, atStartUp := false }

/-- EXJ numbers an entry at the moment it takes it: it takes the next number and the current plant minute, consumes a
reservation where it has one, joins the write path, and its JOURNAL-ENTRY notice is queued (R128, R129). -/
def State.numberEntry (s : State) (reserved : Bool) (draft : Entry) : State :=
  let e := { draft with number := s.journal.next, minute := s.now }
  let s := s.withJournal { s.journal with
    next := s.journal.next + 1
    reserved := if reserved then s.journal.reserved - 1 else s.journal.reserved }
  ((s.enqueueWrite (.entry e)).notify (.journalEntry e.number e.kind e.lot)).journalTest

/-- A change of the journal's state, with its notice (R131). -/
def State.setJournalState (s : State) (x : JournalState) : State :=
  (s.withJournal { s.journal with state := x }).notifyChange .journal s.journal.state.code x.code

/-! ### The store's answers (R130) -/

/-- A standing STORE-FAULT ends. -/
def State.endStoreFault (s : State) : State :=
  if s.journal.fault then (s.withJournal { s.journal with fault := false }).ended .journal .storeFault else s

/-- A matching read-back: the front item is in the store and leaves the queue, the backlog moves up, a standing STORE-FAULT
ends, and the next write begins (R130). In a format with nothing queued, the format's own write was stored (R135). -/
def State.storeFront (s : State) : State :=
  match s.journal.queue with
  | [] => s.endStoreFault
  | i :: rest =>
    let moved := refill rest s.journal.backlog
    let s := (s.withStore (Store.writeRecord s.store i.place i.record)).withJournal { s.journal with
      queue := moved.1, backlog := moved.2, writing := s.journal.state == .formatting && moved.1.isEmpty, writeCycles := 0 }
    s.endStoreFault.beginWrite

/-- A write failed: STORE-FAULT is raised and the entry stays at the front (R130). What the failed write left at the record place the
manual does not say: the model leaves the place as it was (log 25). -/
def State.failWrite (s : State) : State :=
  (s.withJournal { s.journal with writing := false, fault := true }).raise .journal .storeFault

/-- The retry of a plant minute: in STORE-FAULT the front is written again (R130). -/
def State.retryWrite (s : State) : State :=
  if s.journal.fault then s.withJournal { s.journal with writing := true, writeCycles := 0 } else s

/-- A cycle period of a write under way; 50 without completion are a fault (R130). A format's erasing is not timed here (log 9). R130 does
not say whether the period in which the write begins counts: the model counts the ends of periods, so that period is the first and the
fault comes at the 50th end after the start, its choice (log 68). -/
def State.timeWrite (s : State) : State :=
  if s.journal.writing && !s.journal.queue.isEmpty then
    if 50 ≤ s.journal.writeCycles + 1 then s.failWrite
    else s.withJournal { s.journal with writeCycles := s.journal.writeCycles + 1 }
  else s

/-! ### Reading the store (R132, R136) -/

/-- The entry the store holds under a number: a good record whose stored number is the number sought. -/
def storedEntry? (m : List Host.Cell) (n : Nat) : Option Entry :=
  (Entry.ofRecord? (Store.record m (Entry.place n))).filter (·.number == n)

/-- The run of accepted records from a number on, at most so many (R136). -/
def scanRun (m : List Host.Cell) : Nat → Nat → List Entry
  | 0, _ => []
  | fuel + 1, n =>
    match storedEntry? m n with
    | none => []
    | some e => e :: scanRun m fuel (n + 1)

/-- The lowest number among the good records of the entry places (R136). -/
def lowestGood? (m : List Host.Cell) : Option Nat :=
  (((Store.usedPlaces m).filter (· ≠ 0)).filterMap fun p => (Entry.ofRecord? (Store.record m p)).map (·.number)).min?

/-- The oldest held number at start-up, and whether the base record must be written anew (R136). -/
def scanBase (m : List Host.Cell) : Nat × Bool :=
  match baseOfRecord? (Store.record m 0) with
  | some n => (n, false)
  | none => ((lowestGood? m).getD 1, true)

/-- The open samples of a held run, in number order: SAMPLE entries no held COLLECTED entry refers to (R136). -/
def openSamples (run : List Entry) : List OpenSample :=
  run.filterMap fun e =>
    if e.kind == .sample && !(run.any fun c => c.kind == .collected && c.ref == e.number) then
      some { lot := e.lot, point := e.point.getD .steepOut, position := e.pot, number := e.number }
    else none

/-- The entry held under a number, stored or not. -/
def State.heldEntry? (s : State) (n : Nat) : Option Entry :=
  match s.writePath.findSome? fun i => match i with | .entry e => if e.number = n then some e else none | .base _ => none with
  | some e => some e
  | none => storedEntry? s.store n

/-- The pot position of the newest held SAMPLE entry at or below a number, or 0 (R137). -/
def State.newestSamplePot (s : State) : Nat → Nat → Nat
  | 0, _ => 0
  | fuel + 1, n =>
    match s.heldEntry? n with
    | some e => if e.kind == .sample then e.pot else s.newestSamplePot fuel (n - 1)
    | none => s.newestSamplePot fuel (n - 1)

/-- The store as an abrupt loss leaves it (R130, R135). -/
def State.storeAfterLoss (s : State) (left : LossLeft) : List Host.Cell :=
  match s.journal.queue with
  | i :: _ =>
    match s.journal.writing, left.front with
    | true, some bytes => Store.writeRecord s.store i.place bytes
    | _, _ => s.store
  | [] =>
    if s.journal.state = .formatting ∧ 1 ≤ left.formatDone then
      Store.eraseUpTo (Store.writeRecord s.store 0 (baseRecord s.journal.next)) (left.formatDone - 1)
    else s.store

/-- The EEPROM as a save ended or cut off leaves it (R168): the header and the body are written before the check, so an image left bad
has the copy's header and body and a check of any value (log 46). -/
def State.eepromAfter (s : State) (left : ImageLeft) : Eeprom :=
  match s.port.saving, left with
  | some copy, .written => Eeprom.saved copy
  | some copy, .bad check => { Eeprom.saved copy with check := check }
  | _, _ => s.eeprom

end Sys2Proof.Machine
end

