-- ==== Sys2Proof/Machine/SteepOps.lean ====
section
/-! DEFINITION. The operations of the Steep Controller and the Water Round Allocator: vessel states and commands (R25), fills
and their grants (R30, R31, R43 to R49), steps (R30, R34, R35), uptake (R41), the fill faults (R37, R38) and what transfers ask
of a steep (R36). -/

namespace Sys2Proof.Machine

/-! ### Readings and litres (R23) -/

/-- The litres delivered to the present fill: the held delivered-volume value less the baseline, modulo 32,768, times 10; 0
where no value is held or no baseline has been taken (R23). -/
def State.litresDelivered (s : State) (v : SteepId) : Nat :=
  match s.held? (steepSite v) .delivered, (s.steep v).fillBaseline with
  | some x, some b => ((x - b) % 32768).toNat * 10
  | _, _ => 0

/-- Whether the level state or the delivered-volume reading is stale (R38). -/
def State.steepStale (s : State) (v : SteepId) : Bool :=
  !(s.isFresh (steepSite v) .level) || !(s.isFresh (steepSite v) .delivered)

/-! ### States and steps -/

/-- The step a vessel is running. -/
def State.currentStep? (s : State) (v : SteepId) : Option SteepStep :=
  match (s.steep v).stepNumber with
  | some (n + 1) => (s.steepProgram v).steps[n]?
  | _ => none

/-- The outlet commanded in a state (R25). -/
def outletIn : SteepState → Outlet
  | .draining => .drain
  | .transferOut => .discharge
  | .empty => .closed | .charged => .closed | .filling => .closed | .immersed => .closed | .airRest => .closed
  | .done => .closed | .halted => .closed

/-- The air commanded in a state: by the running step in IMMERSED and AIR-REST, by the end-with-rest flag in DONE (R25). -/
def State.airCommand (s : State) (v : SteepId) (x : SteepState) : Air :=
  match x with
  | .immersed => match s.currentStep? v with | some (.immerse _ _ true) => .aerate | _ => .off
  | .airRest => match s.currentStep? v with | some (.rest _ true) => .extract | _ => .off
  | .done => if (s.steepProgram v).endWithRest then .extract else .off
  | .empty => .off | .charged => .off | .filling => .off | .draining => .off | .transferOut => .off | .halted => .off

/-- Entry to a state: its three commands are written anew and the STATE-CHANGE notice is queued. The fill valve is CLOSED:
it is OPEN only between a grant and the fill delivered flag (R25). -/
def State.steepEnter (s : State) (v : SteepId) (x : SteepState) : State :=
  (s.withSteep v { s.steep v with state := x, valveOpen := false, outlet := outletIn x, air := s.airCommand v x }).notifyChange
    (.vessel (.steep v)) (s.steep v).state.code x.code

/-! ### Grants and the fill queue (R43 to R49) -/

/-- A grant reaches the steep whose fill stage is QUEUED: the fill runs from the latest held value under the timeout then
stored, with the valve OPEN (R31, R23). -/
def State.steepGrant (s : State) (v : SteepId) : State :=
  if (s.steep v).fillStage = .queued then
    s.withSteep v { s.steep v with
      fillStage := .running, fillBaseline := s.held? (steepSite v) .delivered, fillMinutes := 0, valveOpen := true
      timeoutInForce := s.settings.fillTimeouts[v] }
  else s

/-- A grant: the litres are booked in the present round, the request leaves the queue, and the steep is told (R48). -/
def State.waterGrant (s : State) (r : FillRequest) : State :=
  (s.withWater { s.water with
    queue := s.water.queue.filter (fun x => decide (x.steep ≠ r.steep)), booked := s.water.booked + r.litres
    grants := s.water.grants + 1 }).steepGrant r.steep

/-- A fill request arrives: it replaces the steep's standing entry (R43) and is granted at once or queued by the round record
as it stands (R47). -/
def State.fillRequest (s : State) (v : SteepId) (litres : Nat) : State :=
  let r : FillRequest := { steep := v, litres, minute := s.now }
  let others := s.water.queue.filter fun x => decide (x.steep ≠ v)
  let s := s.withWater { s.water with queue := others }
  if s.water.started = false ∨ s.water.closed = true then s.withWater { s.water with queue := others ++ [r] }
  else if s.water.grants = 0 ∨ s.water.booked + litres ≤ s.water.allowance then s.waterGrant r
  else s.withWater { s.water with queue := others ++ [r], closed := true }

/-- A steep withdraws its request; the round record is unchanged (R49). -/
def State.fillWithdraw (s : State) (v : SteepId) : State :=
  s.withWater { s.water with queue := s.water.queue.filter fun x => decide (x.steep ≠ v) }

/-- The granting of a round start, from the head: the first grant is free, the later ones are tested against the allowance;
the first head not granted closes the round (R46). -/
def grantRound (s : State) : List FillRequest → State
  | [] => s
  | r :: rest =>
    if s.water.grants = 0 ∨ s.water.booked + r.litres ≤ s.water.allowance then grantRound (s.waterGrant r) rest
    else s.withWater { s.water with closed := true }

/-- A round start (R45): the record is set from the next values, then the queue is worked through (R46). -/
def State.startRound (s : State) : State :=
  let s := s.withWater { s.water with
    started := true, startMinute := s.now, period := s.settings.nextPw, allowance := s.settings.nextAw, counted := 0
    booked := 0, grants := 0, closed := false }
  grantRound s s.water.queue

/-- Whether a round start is due: the minutes counted reach the period, or the first minute after a reset was counted (R45). -/
def State.roundDue (s : State) : Bool :=
  if s.water.started then decide (s.water.period ≤ s.water.counted) else decide (1 ≤ s.water.counted)

/-! ### Stopping a fill (R37, R38, R39) -/

/-- What a stopped fill still owes: the full litres where it was not granted, otherwise the litres less those delivered, or 0
where the fill delivered flag is set (R37, R38, R39). -/
def State.fillOwed (s : State) (v : SteepId) : Nat :=
  let x := s.steep v
  if x.fillStage = .running then (if x.delivered then 0 else x.fillLitres - s.litresDelivered v) else x.fillLitres

/-- The fill of a vessel in FILLING is stopped and the vessel enters HALTED with held state FILLING: a queued request is
withdrawn, a running fill keeps its booking spent (R37, R38, R39). -/
def State.fillStop (s : State) (v : SteepId) : State :=
  let owed := s.fillOwed v
  let s := if (s.steep v).fillStage = .queued then s.fillWithdraw v else s
  (s.withSteep v { s.steep v with fillStage := .none, held := some .filling, remainder := some owed }).steepEnter v .halted

/-- The stale-reading test of a vessel in FILLING (R38). -/
def State.fillStaleTest (s : State) (v : SteepId) : State :=
  if (s.steep v).state = .filling ∧ s.steepStale v = true then
    (s.fillStop v).raise (.vessel (.steep v)) .steepBlind
  else s

/-- The fill timeout is reached (R37). -/
def State.fillLate (s : State) (v : SteepId) : State :=
  (s.fillStop v).raise (.vessel (.steep v)) .fillLate

/-- Whether the fill timeout in force is reached before IMMERSED (R37). -/
def State.fillTimeoutDue (s : State) (v : SteepId) : Bool :=
  (s.steep v).state == .filling && (s.steep v).fillStage == .running &&
    decide ((s.steep v).timeoutInForce ≤ (s.steep v).fillMinutes)

/-! ### Steps (R30) -/

/-- No step is left: the step number is removed and the vessel enters DONE (R30). -/
def State.finishProgram (s : State) (v : SteepId) : State :=
  (s.withSteep v { s.steep v with stepNumber := none }).steepEnter v .done

/-- A fill of so many litres starts in FILLING: the request is posted, then the readings are tested for staleness (R30, R38;
log 10). -/
def State.startFill (s : State) (v : SteepId) (litres : Nat) : State :=
  let s := s.withSteep v { s.steep v with fillLitres := litres, delivered := false, fillMinutes := 0, fillStage := .queued }
  ((s.steepEnter v .filling).fillRequest v litres).fillStaleTest v

/-- Step n starts, counted from 1; past the last step the program is finished (R30). -/
def State.startStep (s : State) (v : SteepId) (n : Nat) : State :=
  let s' := s.withSteep v { s.steep v with stepNumber := some n, stepMinutes := 0 }
  match s'.currentStep? v with
  | none => s.finishProgram v
  | some (.rest ..) => s'.steepEnter v .airRest
  | some (.immerse _ litres _) => s'.startFill v litres

/-- The step after the one that has ended starts, or the program is finished (R34, R35). -/
def State.nextStep (s : State) (v : SteepId) : State :=
  match (s.steep v).stepNumber with
  | some n => s.startStep v (n + 1)
  | none => s.finishProgram v

/-! ### Immersion, draining and resting (R32 to R35) -/

/-- The vessel enters IMMERSED (R32). -/
def State.immerse (s : State) (v : SteepId) : State :=
  (s.withSteep v { s.steep v with fillStage := .none, stepMinutes := 0 }).steepEnter v .immersed

/-- The minutes of the running step. -/
def SteepStep.minutes : SteepStep → Nat
  | .immerse m _ _ => m
  | .rest m _ => m

/-- Whether the step minutes have reached the running step's minutes. -/
def State.stepMinutesReached (s : State) (v : SteepId) : Bool :=
  (s.currentStep? v).any fun x => decide (x.minutes ≤ (s.steep v).stepMinutes)

/-- The immersion ends, with the skip flag set by an early finish (R33). -/
def State.endImmersion (s : State) (v : SteepId) (skip : Bool) : State :=
  (s.withSteep v { s.steep v with skip := skip }).steepEnter v .draining

/-- Whether the early finish of R33 holds: the flag is set and the lot's W is at or above its steep target. -/
def State.earlyFinish (s : State) (v : SteepId) : Bool :=
  (s.steepProgram v).earlyFinish && (s.lotAt? (.steep v)).any fun l => decide (l.target ≤ l.w)

/-- The tests that end an immersion at its minute, the early finish first (R33). -/
def State.immersionTest (s : State) (v : SteepId) : State :=
  if (s.steep v).state = .immersed then
    if s.earlyFinish v then s.endImmersion v true
    else if s.stepMinutesReached v then s.endImmersion v false
    else s
  else s

/-- DRAINING ends: with the skip flag set the program is over, otherwise the next step starts (R34). -/
def State.endDrain (s : State) (v : SteepId) : State :=
  if (s.steep v).skip then (s.withSteep v { s.steep v with skip := false }).finishProgram v else s.nextStep v

/-- The test that ends an air rest at its minute (R35). -/
def State.airRestTest (s : State) (v : SteepId) : State :=
  if (s.steep v).state = .airRest ∧ s.stepMinutesReached v = true then s.nextStep v else s

/-! ### Readings as they arrive (R23) -/

/-- A level state arrives: COVERED with the fill delivered starts the immersion (R32), GRAIN-DRY or EMPTY ends DRAINING (R34). -/
def State.levelArrives (s : State) (v : SteepId) (x : Level) : State :=
  match (s.steep v).state with
  | .filling => if (s.steep v).fillStage = .running ∧ (s.steep v).delivered = true ∧ x = .covered then s.immerse v else s
  | .draining => if x = .covered then s else s.endDrain v
  | .empty => s | .charged => s | .immersed => s | .airRest => s | .done => s | .transferOut => s | .halted => s

/-- A delivered-volume value arrives, already in the image: a grant that waits for its baseline takes it (R23); the fill litres
reached close the valve and set the fill delivered flag; with a fresh COVERED level the immersion starts (R32). -/
def State.volumeArrives (s : State) (v : SteepId) (x : Int) : State :=
  if (s.steep v).state = .filling ∧ (s.steep v).fillStage = .running then
    let s := if (s.steep v).fillBaseline = none then s.withSteep v { s.steep v with fillBaseline := some x } else s
    if (s.steep v).delivered = false ∧ (s.steep v).fillLitres ≤ ((x - ((s.steep v).fillBaseline.getD x)) % 32768).toNat * 10 then
      let s := s.withSteep v { s.steep v with valveOpen := false, delivered := true }
      if s.level? v = some .covered then s.immerse v else s
    else s
  else s

/-! ### Uptake (R41) -/

/-- The rate factor F, from Tw clamped to 50..250; a Tw that holds no value is 50 (R41, R23). -/
def uptakeFactor (tw : Option Temp) : Nat :=
  8 + ((max 50 (min 250 (tw.getD 50)) - 50) * 24 / 200).toNat

/-- The uptake of a minute from the gap, the factor and the fresh level state (R41). -/
def uptake (gap factor : Nat) : Option Level → Nat
  | some .covered => (gap * factor + 4095) / 4096
  | some .grainDry => (gap * factor + 16383) / 16384
  | some .empty => 0
  | none => 0

/-- The lot's minute in the steep: its minutes rise, then W takes the uptake (R41 steps 1 and 2). -/
def State.uptakeMinute (s : State) (v : SteepId) : State :=
  let factor := uptakeFactor (s.held? (steepSite v) .tw)
  let level := s.level? v
  s.modLotAt (.steep v) fun l =>
    { l with minSteep := countUp l.minSteep, w := l.w + uptake (l.wcap - l.w) factor level }

/-- STEEP-BLIND at a minute of a steep that holds a lot: raised while the level state is stale, ended where the level state and
the delivered volume are both fresh (R38, R41). DESIGN CHOICE (log 71): one that stands over a fresh level state and a stale delivered
volume is left standing and not raised again. -/
def State.steepBlindTest (s : State) (v : SteepId) : State :=
  if s.level? v = none then s.raise (.vessel (.steep v)) .steepBlind
  else if s.steepStale v then s
  else s.ended (.vessel (.steep v)) .steepBlind

/-- The counting and testing of the vessel's state at its minute (R41 step 3: R31, R33, R35, R37, R38). -/
def State.steepStateMinute (s : State) (v : SteepId) : State :=
  match (s.steep v).state with
  | .filling =>
    let s := if (s.steep v).fillStage = .running then
        s.withSteep v { s.steep v with fillMinutes := (s.steep v).fillMinutes + 1 } else s
    (if s.fillTimeoutDue v then s.fillLate v else s).fillStaleTest v
  | .immersed => (s.withSteep v { s.steep v with stepMinutes := (s.steep v).stepMinutes + 1 }).immersionTest v
  | .airRest => (s.withSteep v { s.steep v with stepMinutes := (s.steep v).stepMinutes + 1 }).airRestTest v
  | .empty => s | .charged => s | .draining => s | .done => s | .transferOut => s | .halted => s

/-- A steep's plant minute (R41). A vessel without a lot does nothing. -/
def State.steepMinute (s : State) (v : SteepId) : State :=
  if (s.lotAt? (.steep v)).isSome then ((s.uptakeMinute v).steepBlindTest v).steepStateMinute v else s

/-! ### The water round's minute (R45) -/

def State.waterMinute (s : State) : State :=
  let s := s.withWater { s.water with counted := s.water.counted + 1 }
  if s.roundDue then s.startRound else s

/-! ### What transfers ask of a steep -/

/-- The vessel enters TRANSFER-OUT: a queued request is withdrawn, the step, skip and fill fields return to their EMPTY values,
any FILL-LATE ends (R36). R36 does not name the step minutes: they go to 0 with the step number, the model's choice (log 55). -/
def State.steepOut (s : State) (v : SteepId) : State :=
  let s := if (s.steep v).state = .filling ∧ (s.steep v).fillStage = .queued then s.fillWithdraw v else s
  let s := s.withSteep v { s.steep v with
    held := none, stepNumber := none, stepMinutes := 0, skip := false, fillStage := .none, fillLitres := 0
    fillBaseline := some 0, remainder := none, fillMinutes := 0, delivered := false, timeoutInForce := 0 }
  (s.ended (.vessel (.steep v)) .fillLate).steepEnter v .transferOut

/-- The vessel becomes EMPTY: STEEP-BLIND ends (R36, R38). -/
def State.steepEmpty (s : State) (v : SteepId) : State :=
  (s.ended (.vessel (.steep v)) .steepBlind).steepEnter v .empty

end Sys2Proof.Machine
end

