-- ==== Sys2Proof/Machine/TurnerOps.lean ====
section
/-! DEFINITION. The operations of the Turner Arbiter: the turn queue (R72, R73), taking the head, travel, pass, cancel, fault and
recovery (R75 to R81). -/

namespace Sys2Proof.Machine

/-! ### The turn queue (R72) -/

/-- The order of the queue: higher urgency, then earlier request minute, then lower box (R72). -/
def TurnRequest.before (a b : TurnRequest) : Bool :=
  if a.urgency ≠ b.urgency then decide (b.urgency < a.urgency)
  else if a.minute ≠ b.minute then decide (a.minute < b.minute)
  else decide (a.box < b.box)

/-- A request put in its place. -/
def queueInsert (r : TurnRequest) : List TurnRequest → List TurnRequest
  | [] => [r]
  | x :: rest => if r.before x then r :: x :: rest else x :: queueInsert r rest

/-- The queue without a box's request. -/
def queueRemove (b : BoxId) (q : List TurnRequest) : List TurnRequest := q.filter fun r => decide (r.box ≠ b)

/-- The request queued for a box. -/
def State.queuedTurn? (s : State) (b : BoxId) : Option TurnRequest := s.turner.queue.find? (·.box == b)

/-- The queue with a box's request put in, in place of any it holds for the box. -/
def State.putTurn (s : State) (r : TurnRequest) : State :=
  s.withTurner { s.turner with queue := queueInsert r (queueRemove r.box s.turner.queue) }

/-! ### State, commands and the operation -/

/-- A change of the turner's state, with its notice (R71). -/
def State.turnerEnter (s : State) (x : TurnerState) : State :=
  (s.withTurner { s.turner with state := x }).notifyChange .turner s.turner.state.code x.code

/-- The action STOP with the target at the known position (R78, R80); an absent known position leaves the target open
(log 3). -/
def State.turnerStop (s : State) : State :=
  match s.turner.knownPosition with
  | some p => s.withTurner { s.turner with target := p, action := .stop }
  | none =>
    (s.withTurner { s.turner with target := Config.openTarget s.freeTaken, action := .stop }).withFreeTaken (s.freeTaken + 1)

/-- The engaged flag of a box, as TNA's news sets and clears it (R63). -/
def State.setEngaged (s : State) (b : BoxId) (x : Bool) : State := s.withBox b { s.box b with engaged := x }

/-- The operation ends: it is removed and BMN is told (R77, R78, R80). -/
def State.endOperation (s : State) : State :=
  match s.turner.operation with
  | none => s
  | some op => (s.withTurner { s.turner with operation := none }).setEngaged op.request.box false

/-- Whether the turner is engaged on a box (R79). -/
def State.engagedOn (s : State) (b : BoxId) : Bool :=
  (s.turner.state == .travelling || s.turner.state == .passing) &&
    s.turner.operation.any fun op => op.request.box == b

/-- The position over a box: B1 is position 1 (5.1). -/
def railPosition (b : BoxId) : RailPos := ⟨b.val + 1, by omega⟩

/-- The distance between two rail positions (R76). -/
def railDistance (a b : RailPos) : Nat := max a.val b.val - min a.val b.val

/-- The turner takes the head of the queue where it is IDLE, the queue is not empty and the known position is present
(R75, R76). -/
def State.takeHeadTest (s : State) : State :=
  match s.turner.state, s.turner.queue, s.turner.knownPosition with
  | .idle, r :: rest, some p =>
    let lot := ((s.lotAt? (.box r.box)).map (·.number)).getD 0
    let s := s.withTurner { s.turner with
      queue := rest, operation := some { request := r, lot }, travelMinutes := 0
      travelLimit := railDistance p (railPosition r.box) * s.settings.turner.travel + 5
      target := railPosition r.box, action := .travel }
    (s.setEngaged r.box true).turnerEnter .travelling
  | _, _, _ => s

/-! ### Messages for the queue (R73) -/

/-- Whether a reason is one of BMN's own. -/
def ownReason (r : TurnReason) : Bool := r != .host

/-- BMN posts a request: added for a TENDING box with none queued, taken into BMN's own request, ignored by a host request
(R73). -/
def State.turnPost (s : State) (b : BoxId) (n : Need) : State :=
  match s.queuedTurn? b with
  | none =>
    if (s.box b).state = .tending then
      (s.putTurn { box := b, urgency := n.urgency, minute := s.now, reason := n.reason }).takeHeadTest
    else s
  | some r =>
    if r.reason = .host then s else (s.putTurn { r with urgency := n.urgency, reason := n.reason }).takeHeadTest

/-- BMN refreshes its own request; the request minute is kept (R73). -/
def State.turnRefresh (s : State) (b : BoxId) (n : Need) : State :=
  match s.queuedTurn? b with
  | none => s
  | some r =>
    if r.reason = .host then s else (s.putTurn { r with urgency := n.urgency, reason := n.reason }).takeHeadTest

/-- BMN removes its own request (R73). -/
def State.turnRemoveOwn (s : State) (b : BoxId) : State :=
  match s.queuedTurn? b with
  | none => s
  | some r =>
    if r.reason = .host then s
    else (s.withTurner { s.turner with queue := queueRemove b s.turner.queue }).takeHeadTest

/-- BMN or LTB removes any request for a box (R73). -/
def State.turnRemove (s : State) (b : BoxId) : State :=
  match s.queuedTurn? b with
  | none => s
  | some _ => (s.withTurner { s.turner with queue := queueRemove b s.turner.queue }).takeHeadTest

/-! ### Travel and pass (R76, R77) -/

/-- The end of the travel, where the position and the motion stand fresh at the target and STOPPED: the pass begins with the
length and spray as they stand in the settings (R76). -/
def State.travelEndTest (s : State) : State :=
  match s.turner.state, s.turner.operation with
  | .travelling, some op =>
    if s.position? = some s.turner.target ∧ s.motion? = some .stopped then
      let spray := s.settings.turner.spray[op.request.box]
      (s.withTurner { s.turner with
        passMinutes := 0, passLength := s.settings.turner.pass, sprayInForce := spray
        action := if 0 < spray then .passSpray else .pass }).turnerEnter .passing
    else s
  | _, _ => s

/-- A count that stops at 65,535 (R3). -/
def countTo16 (n : Nat) : Nat := if n < 65535 then n + 1 else n

/-- The lot record of a completed pass: the turn counts, and the spray raises W up to Wcap (R77 steps 1 and 2). -/
def Lot.turned (l : Lot) (now : Minute) (spray : Nat) : Lot :=
  let w := if 0 < spray then min (l.w + spray) l.wcap else l.w
  { l with turnCount := countTo16 l.turnCount, lastTurn := some now, sinceTurn := some 0, w := w, spray := l.spray + (w - l.w) }

/-- The pass is complete (R77). -/
def State.completePass (s : State) : State :=
  match s.turner.operation with
  | none => s
  | some op =>
    let s := s.modLot op.lot fun l => l.turned s.now s.turner.sprayInForce
    let s := s.withTurner { s.turner with action := .stop }
    (s.endOperation.turnerEnter .idle).takeHeadTest

/-- Whether the pass minutes have reached the pass length (R77). -/
def State.passDue (s : State) : Bool :=
  s.turner.state == .passing && s.turner.operation.isSome && decide (s.turner.passLength ≤ s.turner.passMinutes)

/-- An aborted pass counts for its lot (R78, R80). -/
def State.countAborted (s : State) : State :=
  match s.turner.operation with
  | none => s
  | some op => s.modLot op.lot fun l => { l with aborted := countTo16 l.aborted }

/-! ### Cancel and fault (R78, R80, R81) -/

/-- The travel or pass is cancelled: the machine stops, a pass counts as aborted, the operation ends, and the new head is taken
if it can be (R78). Of a cancelled pass R78 gives the action alone: the target is left at the box, the model's choice (log 65). -/
def State.cancelOperation (s : State) : State :=
  let s := if s.turner.state = .passing then (s.countAborted.withTurner { s.turner with action := .stop }) else s.turnerStop
  (s.endOperation.turnerEnter .idle).takeHeadTest

/-- Entry to FAULT: the cause, STOP, TURNER-FAULT, and the operation ended with its pass aborted (R80). The alarm is raised before the
notice of the entry, which R80 does not say: the model's choice (log 39). -/
def State.turnerFault (s : State) (cause : FaultCause) : State :=
  let s := if s.turner.state = .passing then s.countAborted else s
  let s := (s.withTurner { s.turner with cause := some cause }).turnerStop
  (s.endOperation.raise .turner .turnerFault).turnerEnter .fault

/-- Whether the travel minutes have reached the travel limit (R76). -/
def State.travelDue (s : State) : Bool :=
  s.turner.state == .travelling && decide (s.turner.travelLimit ≤ s.turner.travelMinutes)

/-- Whether the position or the motion reading is stale (R80). -/
def State.turnerStale (s : State) : Bool :=
  !(s.isFresh .turner .position) || !(s.isFresh .turner .motion)

/-- The recovery of a turner in FAULT: both readings fresh and the motion other than FAULT (R81). The alarm ends before the notice of
the return to IDLE, which R81 does not say: the model's choice (log 39). R81 names no command either: none is written, and STOP stands
with the target of the fault's entry (the model's choice, log 65). -/
def State.recoveryTest (s : State) : State :=
  if s.turner.state = .fault ∧ s.turnerStale = false ∧ s.motion? ≠ some .fault then
    (((s.withTurner { s.turner with cause := none }).ended .turner .turnerFault).turnerEnter .idle).takeHeadTest
  else s

/-! ### Readings as they arrive (R70) -/

/-- A position arrives: it is the known position; the end of the travel and the taking of the head are tested (R70, R75, R76). -/
def State.positionArrives (s : State) (p : RailPos) : State :=
  ((s.withTurner { s.turner with knownPosition := some p }).travelEndTest).takeHeadTest

/-- A motion arrives: FAULT puts the turner in FAULT, or becomes the cause of the FAULT it is in (R80, R81); otherwise the end
of the travel is tested (R76). -/
def State.motionArrives (s : State) (m : Motion) : State :=
  if m = .fault then
    (if s.turner.state = .fault then s.withTurner { s.turner with cause := some .stationFault }
     else s.turnerFault .stationFault)
  else s.travelEndTest

/-! ### The turner's minute -/

/-- The turner's plant minute: the stale test before the count (R80, log 11), the counts with the ends they reach (R76, R77),
and the recovery of FAULT (R81). -/
def State.turnerMinute (s : State) : State :=
  match s.turner.state with
  | .fault => s.recoveryTest
  | .idle => if s.turner.knownPosition.isSome && s.turnerStale then s.turnerFault .stale else s
  | .travelling =>
    if s.turnerStale then s.turnerFault .stale
    else
      let s := s.withTurner { s.turner with travelMinutes := s.turner.travelMinutes + 1 }
      if s.travelDue then s.turnerFault .travelLate else s
  | .passing =>
    if s.turnerStale then s.turnerFault .stale
    else
      let s := s.withTurner { s.turner with passMinutes := s.turner.passMinutes + 1 }
      if s.passDue then s.completePass else s

end Sys2Proof.Machine
end

