-- ==== Sys2Proof/Machine/BoxOps.lean ====
section
/-! DEFINITION. The operations of the Bed Monitor: box states and commands (R55, R56), the evaluation of the bed (R58, R59), the
turn need (R61, R62), the fan (R64) and the box minute (R57). -/

namespace Sys2Proof.Machine

/-! ### States and commands (R55) -/

/-- The gate commanded in a state (R55). -/
def boxGate : BoxState → Gate
  | .loading => .receive
  | .transferOut => .discharge
  | .empty => .closed | .tending => .closed | .ready => .closed | .halted => .closed

/-- Entry to a state: the gate is written anew and the STATE-CHANGE notice is queued (R55). -/
def State.boxEnter (s : State) (b : BoxId) (x : BoxState) : State :=
  (s.withBox b { s.box b with state := x, gate := boxGate x }).notifyChange (.vessel (.box b)) (s.box b).state.code x.code

/-- On entry to EMPTY, LOADING or TRANSFER-OUT the fan stops, the blind flag, the need, the usable zones, the mean and the spread
are cleared, and the box's conditions end (R55, R56); the ends are told before the entry, which R56 does not say: the model's choice
(log 39). -/
def State.boxClear (s : State) (b : BoxId) (x : BoxState) : State :=
  let s := s.withBox b { s.box b with
    held := none, blind := false, need := none, usable := Vector.replicate 12 false, mean := none, spread := none, fan := 0 }
  ((s.ended (.vessel (.box b)) .boxBlind).ended (.vessel (.box b)) .boxHot).boxEnter b x

/-- Entry to TENDING with a lot that has just come: the first evaluation is still to come and the fan runs at Fbase (R56). -/
def State.boxTend (s : State) (b : BoxId) (x : BoxState) : State :=
  (s.withBox b { s.box b with
    held := none, blind := false, need := none, mean := none, spread := none, fan := (s.boxSettings b).fbase }).boxEnter b x

/-- Whether the lot of a box has reached the box-minutes target (R60). -/
def State.boxMinutesReached (s : State) (b : BoxId) : Bool :=
  (s.lotAt? (.box b)).any fun l => decide ((s.boxSettings b).target ≤ l.minBox)

/-- The state a box takes by its lot's minutes in box (R20, R56, R68). -/
def State.boxStateByMinutes (s : State) (b : BoxId) : BoxState := if s.boxMinutesReached b then .ready else .tending

/-! ### The bed (R58, R59) -/

/-- Whether a zone entry is fresh (R52). -/
def Zone.isFresh (z : Zone) : Bool := z.value.isSome && decide (z.age ≤ Config.freshLimit)

/-- The usable zones: not masked and fresh (R58). -/
def State.usableZones (s : State) (b : BoxId) : Vector Bool 12 :=
  Vector.ofFn fun z => !(s.settings.zoneMasks[b])[z] && ((s.box b).zones[z]).isFresh

/-- The values of the usable zones. -/
def State.usableValues (s : State) (b : BoxId) : List Temp :=
  (List.finRange 12).filterMap fun z => if (s.usableZones b)[z] then ((s.box b).zones[z]).value else none

/-- The mean of a run of values, rounded by floor (R58). -/
def bedMean (values : List Temp) : Int := values.sum / values.length

/-- The largest of a run of values less the smallest (R58). -/
def bedSpread (values : List Temp) : Int := values.max?.getD 0 - values.min?.getD 0

/-- The hot-bed test of an evaluation (R59). -/
def State.boxHotTest (s : State) (b : BoxId) (mean : Int) : State :=
  if (s.boxSettings b).highMean + 30 ≤ mean then s.raise (.vessel (.box b)) .boxHot else s.ended (.vessel (.box b)) .boxHot

/-- The evaluation of a bed: with fewer than 4 usable zones the box is BLIND and its mean, spread and need stay; otherwise the
mean and the spread are recorded and the hot bed is tested (R58, R59). -/
def State.evaluateBed (s : State) (b : BoxId) : State :=
  let values := s.usableValues b
  let usable := s.usableZones b
  if values.length < 4 then
    (s.withBox b { s.box b with blind := true, usable := usable }).raise (.vessel (.box b)) .boxBlind
  else
    let s := s.withBox b { s.box b with
      blind := false, usable := usable, mean := some (bedMean values), spread := some (bedSpread values) }
    (s.ended (.vessel (.box b)) .boxBlind).boxHotTest b (bedMean values)

/-! ### The turn need (R61, R62) -/

/-- The reasons that hold for a bed, each with its urgency, in the order that settles equal urgencies (R61). -/
def turnReasons (x : BoxSettings) (mean spread : Int) (since : Nat) : List Need :=
  (if x.maxInterval ≤ since then [{ reason := .interval, urgency := 1000 }] else []) ++
  (if (x.highMean : Int) ≤ mean then [{ reason := .hot, urgency := 500 + (mean - x.highMean) }] else []) ++
  (if (x.spreadThreshold : Int) ≤ spread then [{ reason := .spread, urgency := spread }] else [])

/-- The first need of the highest urgency. -/
def highestNeed : List Need → Option Need
  | [] => none
  | n :: rest =>
    match highestNeed rest with
    | none => some n
    | some m => if n.urgency < m.urgency then some m else some n

/-- The turn need of a bed (R61): none below the minimum interval. -/
def turnNeed (x : BoxSettings) (mean spread : Int) (since : Nat) : Option Need :=
  if since < x.minInterval then none else highestNeed (turnReasons x mean spread since)

/-- BMN acts on TNA's queue, by the first row of R62 that fits. -/
def State.actOnNeed (s : State) (b : BoxId) (need : Option Need) : State :=
  if (s.box b).engaged then s
  else
    match need, s.queuedTurn? b with
    | some n, none => s.turnPost b n
    | some n, some r => if ownReason r.reason then s.turnRefresh b n else s
    | none, some r => if ownReason r.reason then s.turnRemoveOwn b else s
    | none, none => s

/-- The turn decision of a box minute in TENDING that is not BLIND (R61, R62). -/
def State.decideTurn (s : State) (b : BoxId) : State :=
  if (s.box b).blind then s
  else
    match (s.box b).mean, (s.box b).spread, s.lotAt? (.box b) with
    | some mean, some spread, some l =>
      let need := turnNeed (s.boxSettings b) mean spread (l.sinceTurn.getD 0)
      (s.withBox b { s.box b with need := need }).actOnNeed b need
    | _, _, _ => s

/-! ### READY and the fan (R60, R64) -/

/-- The box enters READY at its box-minutes target: the need is none and any request for it is removed (R60). -/
def State.boxReady (s : State) (b : BoxId) : State :=
  ((s.withBox b { s.box b with need := none }).boxEnter b .ready).turnRemove b

/-- The box-minutes test of a TENDING box (R60). -/
def State.boxTargetTest (s : State) (b : BoxId) : State :=
  if (s.box b).state = .tending ∧ s.boxMinutesReached b = true then s.boxReady b else s

/-- The fan demand from a mean (R64): truncated toward zero, then clamped. -/
def fanDemand (x : BoxSettings) (mean : Int) : Nat :=
  (max (x.fmin : Int) (min (x.fmax : Int) (Int.tdiv ((mean - x.tset) * x.kf) 10 + x.fbase))).toNat

/-- The fan demand of a box minute that is not BLIND (R64). -/
def State.computeFan (s : State) (b : BoxId) : State :=
  if (s.box b).blind then s
  else
    match (s.box b).mean with
    | some mean => s.withBox b { s.box b with fan := fanDemand (s.boxSettings b) mean }
    | none => s

/-! ### The box minute (R57) -/

/-- The lot's minute in a box (R57 step 1). -/
def State.countBoxMinute (s : State) (b : BoxId) : State :=
  s.modLotAt (.box b) fun l => { l with minBox := countUp l.minBox, sinceTurn := some (countUp (l.sinceTurn.getD 0)) }

/-- The turn decision, where the box is still TENDING after its target test. -/
def State.turnDecisionTest (s : State) (b : BoxId) : State :=
  if (s.box b).state = .tending then s.decideTurn b else s

/-- The box minute (R57). -/
def State.boxMinute (s : State) (b : BoxId) : State :=
  match (s.box b).state with
  | .tending => (((((s.countBoxMinute b).evaluateBed b).boxTargetTest b).turnDecisionTest b).computeFan b)
  | .ready => ((s.countBoxMinute b).evaluateBed b).computeFan b
  | .halted => (s.countBoxMinute b).evaluateBed b
  | .transferOut => s.countBoxMinute b
  | .empty => s
  | .loading => s

end Sys2Proof.Machine
end

