-- ==== Sys2Proof/Machine/KilnOps.lean ====
section
/-! DEFINITION. The operations of the Kiln Controller and the Peat Fire Arbiter: phases and commands (R86, R87), the asks, grants
and releases of the one peat fire (R107 to R113), drying and the break (R92 to R96), curing and cooling (R98, R99), the trip
(R100 to R102), the blind kiln (R103), and both plant minutes (R91, R109). -/

namespace Sys2Proof.Machine

/-! ### Phases and their commands (R86) -/

/-- The gate commanded in a phase; a TRIPPED kiln's follows its remembered phase (R86). -/
def kilnGate : KilnPhase → Gate
  | .loading => .receive
  | .unloading => .discharge
  | .empty => .closed | .freeDry => .closed | .curingRamp => .closed | .curingHold => .closed | .cooling => .closed
  | .ready => .closed | .tripped => .closed

/-- The burner setpoint of a phase (R86). -/
def State.phaseSetpoint (s : State) (k : KilnId) : KilnPhase → Nat
  | .freeDry => (s.kilnProgram k).tfd
  | .curingRamp => (s.kiln k).ramp
  | .curingHold => (s.kilnProgram k).tc
  | .empty => 0 | .loading => 0 | .cooling => 0 | .ready => 0 | .unloading => 0 | .tripped => 0

/-- A kiln enters a phase with its commands: the setpoint, the gate, and the damper, which is OPEN in FREE-DRY while the peat
grant is held (R86). A TRIPPED kiln remembers the phase instead and only its gate follows (R87). -/
def State.kilnEnter (s : State) (k : KilnId) (x : KilnPhase) : State :=
  if (s.kiln k).phase = .tripped then s.withKiln k { s.kiln k with remembered := some x, gate := kilnGate x }
  else
    (s.withKiln k { s.kiln k with
      phase := x, setpoint := s.phaseSetpoint k x, gate := kilnGate x
      damperOpen := x == .freeDry && (s.kiln k).peatGrant }).notifyChange (.vessel (.kiln k)) (s.kiln k).phase.code x.code

/-- The burner setpoint is commanded. -/
def State.setSetpoint (s : State) (k : KilnId) (x : Nat) : State := s.withKiln k { s.kiln k with setpoint := x }

/-! ### The peat fire (R107 to R112) -/

/-- PFA's word to KLC about a kiln's grant: the damper follows it in FREE-DRY (R86, R108, R111). -/
def State.setGrant (s : State) (k : KilnId) (x : Bool) : State :=
  s.withKiln k { s.kiln k with peatGrant := x, damperOpen := x && (s.kiln k).phase == .freeDry }

/-- A change of PFA's state and holder, with its notice (R106); FREE ends PEAT-OUT (R112). -/
def State.peatEnter (s : State) (x : PeatState) (holder : Option KilnId) : State :=
  let s' := s.withPeat { s.peat with state := x, holder := holder, route := holder }
  let s' := if x = .free then s'.ended .peat .peatOut else s'
  if s.peat.state = x ∧ s.peat.holder = holder then s'
  else s'.notify (.peatChange s.peat.state x s.peat.holder holder)

/-- A release: the holder's grant ends, the route goes to NONE, the counts are cleared, and the fire is FREE (R108). -/
def State.peatRelease (s : State) : State :=
  let s := match s.peat.holder with | some k => s.setGrant k false | none => s
  (s.withPeat { s.peat with switchMinutes := 0, spellMinutes := 0 }).peatEnter .free none

/-- KLC's ask for a kiln (R107). -/
def State.peatAsk (s : State) (k : KilnId) : State :=
  s.withPeat { s.peat with asking := s.peat.asking.set k true }

/-- KLC's stop for a kiln; the holder's stop releases the fire (R107, R108). -/
def State.peatStop (s : State) (k : KilnId) : State :=
  let s := s.withPeat { s.peat with asking := s.peat.asking.set k false }
  if s.peat.holder = some k then s.peatRelease else s

/-- Whether a kiln is requesting: it asks, its lot's W is at or above the cutoff and its peat given below its target (R107). -/
def State.requesting (s : State) (k : KilnId) : Bool :=
  s.peat.asking[k] && (s.lotAt? (.kiln k)).any fun l =>
    decide (s.settings.peat.cutoff ≤ l.w) && decide (l.peatGiven < l.peatTarget)

/-- A switch to a kiln: the present holder's grant ends, the chosen kiln is the holder, the route is commanded and SWITCHING
starts; PEAT-OUT is raised where the fire reads OUT (R110, R112). -/
def State.peatSwitch (s : State) (k : KilnId) : State :=
  let s := match s.peat.holder with | some h => s.setGrant h false | none => s
  let s := (s.withPeat { s.peat with switchMinutes := 0, switchTime := s.settings.peat.switchover }).peatEnter .switching (some k)
  if s.fire? = some .out then s.raise .peat .peatOut else s

/-- The other kiln. -/
def otherKiln (k : KilnId) : KilnId := if k = 0 then 1 else 0

/-- The peat minutes a kiln's lot still wants (R110). -/
def State.peatRemaining (s : State) (k : KilnId) : Nat :=
  ((s.lotAt? (.kiln k)).map fun l => l.peatTarget - l.peatGiven).getD 0

/-- The decision of R110 with the fire FREE. -/
def State.decideFree (s : State) : State :=
  match s.requesting 0, s.requesting 1 with
  | false, false => s
  | true, false => s.peatSwitch 0
  | false, true => s.peatSwitch 1
  | true, true => if s.peatRemaining 0 < s.peatRemaining 1 then s.peatSwitch 1 else s.peatSwitch 0

/-- The settle test: the switchover time has passed and the route reads fresh at the holder; then the fire is GRANTED and the
holder's damper opens (R111). -/
def State.settleTest (s : State) : State :=
  match s.peat.holder with
  | some k =>
    if s.peat.switchTime ≤ s.peat.switchMinutes ∧ s.route? = some (RouteReading.ofKiln k) then
      ((s.withPeat { s.peat with spellMinutes := 0, spellLength := s.settings.peat.spell }).peatEnter .granted (some k)).setGrant
        k true
    else s
  | none => s

/-- The end of a spell for a holder that still requests: the other kiln if it requests, otherwise a new spell (R110). -/
def State.endSpell (s : State) (k : KilnId) : State :=
  if s.requesting (otherKiln k) then s.peatSwitch (otherKiln k)
  else s.withPeat { s.peat with spellMinutes := 0, spellLength := s.settings.peat.spell }

/-- Whether the spell minutes have reached the spell length in force. -/
def State.spellDue (s : State) : Bool :=
  s.peat.state == .granted && decide (s.peat.spellLength ≤ s.peat.spellMinutes)

/-- The decision of R110, on the first case that fits. -/
def State.peatDecide (s : State) : State :=
  match s.peat.state, s.peat.holder with
  | .free, _ => s.decideFree
  | _, none => s
  | .switching, some k => if s.requesting k then s.settleTest else s.peatRelease.decideFree
  | .granted, some k =>
    if s.requesting k then (if s.spellDue then s.endSpell k else s) else s.peatRelease.decideFree

/-- The counting of R109 in the state PFA stands in. -/
def State.peatCount (s : State) : State :=
  match s.peat.state, s.peat.holder with
  | .granted, some k =>
    let s := if s.requesting k = true ∧ (s.kiln k).phase = .freeDry ∧ s.fire? = some .burning then
        s.modLotAt (.kiln k) fun l => { l with peatGiven := l.peatGiven + 1 } else s
    s.withPeat { s.peat with spellMinutes := s.peat.spellMinutes + 1 }
  | .granted, none => s.withPeat { s.peat with spellMinutes := s.peat.spellMinutes + 1 }
  | .switching, _ => s.withPeat { s.peat with switchMinutes := s.peat.switchMinutes + 1 }
  | .free, _ => s

/-- What PEAT-QUERY reports of the requesting tests of the minute (R115, log 12). -/
def State.noteRequests (s : State) : State :=
  s.withPeat { s.peat with requested := #v[s.requesting 0, s.requesting 1] }

/-- PFA's plant minute (R109, R110). -/
def State.peatMinute (s : State) : State := (s.peatCount.noteRequests).peatDecide

/-- A fresh fire state arrives (R112). -/
def State.fireArrives (s : State) (x : Fire) : State :=
  match x with
  | .out => if s.peat.state = .free then s else s.raise .peat .peatOut
  | .burning => s.ended .peat .peatOut

/-! ### Kiln phases set by the Lot Table (R87, R88) -/

/-- Entry to FREE-DRY with a lot that has come: Wload is W, Q 1024, D0 absent, the counts 0; the kiln asks for the fire unless it
is TRIPPED (R87, R107). -/
def State.kilnFreeDry (s : State) (k : KilnId) : State :=
  let s := s.modLotAt (.kiln k) fun l => { l with wload := some l.w, q := some 1024, d0 := none }
  let s := s.withKiln k { s.kiln k with freeDryMinutes := 0, breakCount := 0, blindMinutes := 0, breakLate := false }
  let s := s.kilnEnter k .freeDry
  if (s.kiln k).phase = .tripped then s else s.peatAsk k

/-- KLC's report to PFA that the kiln is UNLOADING or EMPTY: PEAT-SHORT ends (R113). -/
def State.peatShortEnd (s : State) (k : KilnId) : State := s.ended (.vessel (.kiln k)) .peatShort

/-- Entry to UNLOADING (R87). -/
def State.kilnUnload (s : State) (k : KilnId) : State :=
  let s := (s.peatStop k).peatShortEnd k
  let s := s.withKiln k { s.kiln k with
    freeDryMinutes := 0, breakCount := 0, ramp := 0, holdMinutes := 0, blindMinutes := 0 }
  (((s.ended (.vessel (.kiln k)) .breakLate).ended (.vessel (.kiln k)) .kilnDropLow).ended (.vessel (.kiln k)) .kilnBlind).kilnEnter
    k .unloading

/-- The kiln becomes EMPTY (R87, R103, R113). -/
def State.kilnEmpty (s : State) (k : KilnId) : State :=
  ((s.peatShortEnd k).ended (.vessel (.kiln k)) .kilnBlind).kilnEnter k .empty

/-- What KLC sets of its own record at RESTORE-LOT into a phase (R88). -/
def State.kilnRestore (s : State) (k : KilnId) (x : KilnPhase) : State :=
  match x with
  | .freeDry =>
    ((s.withKiln k { s.kiln k with freeDryMinutes := 0, breakCount := 0, blindMinutes := 0, breakLate := false }).kilnEnter k
      .freeDry).peatAsk k
  | .curingRamp => (s.withKiln k { s.kiln k with ramp := (s.kilnProgram k).tfd, holdMinutes := 0 }).kilnEnter k .curingRamp
  | .curingHold => (s.withKiln k { s.kiln k with holdMinutes := 0 }).kilnEnter k .curingHold
  | .cooling => s.kilnEnter k .cooling
  | .ready => s.kilnEnter k .ready
  | .empty => s | .loading => s | .unloading => s | .tripped => s

/-! ### The break (R95, R97, R113) -/

/-- A break, natural or forced: the break minute and the shortfall are written, PFA is told and raises PEAT-SHORT for a shortfall,
the FREE-DRY conditions end, and the kiln enters CURING/RAMP at Tfd (R95, R97, R113). -/
def State.kilnBreak (s : State) (k : KilnId) (forced : Bool) : State :=
  let short := s.peatRemaining k
  let s := s.modLotAt (.kiln k) fun l =>
    { l with breakMinute := some s.now, forced := forced, shortfall := some (l.peatTarget - l.peatGiven) }
  let s := s.peatStop k
  let s := if 0 < short then s.raise (.vessel (.kiln k)) .peatShort else s
  let s := (s.ended (.vessel (.kiln k)) .breakLate).ended (.vessel (.kiln k)) .kilnDropLow
  (s.withKiln k { s.kiln k with ramp := (s.kilnProgram k).tfd, holdMinutes := 0 }).kilnEnter k .curingRamp

/-- Whether the break count has reached Nb in FREE-DRY (R95). -/
def State.breakDue (s : State) (k : KilnId) : Bool :=
  (s.kiln k).phase == .freeDry && decide ((s.kilnProgram k).nb ≤ (s.kiln k).breakCount)

/-- The test of BREAK-LATE (R96). -/
def State.breakLateTest (s : State) (k : KilnId) : State :=
  if (s.kiln k).phase = .freeDry ∧ (s.kiln k).breakLate = false ∧ (s.kilnProgram k).maxFreeDry ≤ (s.kiln k).freeDryMinutes then
    (s.withKiln k { s.kiln k with breakLate := true }).raise (.vessel (.kiln k)) .breakLate
  else s

/-! ### Drying (R91 to R94) -/

/-- Ton and Toff where both are fresh; otherwise the kiln minute is blind (R91, R103). -/
def State.kilnAir? (s : State) (k : KilnId) : Option (Temp × Temp) :=
  match s.fresh? (kilnSite k) .ton, s.fresh? (kilnSite k) .toff with
  | some a, some b => some (a, b)
  | _, _ => none

/-- The drop D: Ton less Toff, or 0 if that is negative (R91). -/
def kilnDrop (ton toff : Temp) : Int := max 0 (ton - toff)

/-- The drying ratio Q (R93); with a first drop of 0 or below it is open (log 2). -/
def dryingRatio (d d0 : Int) : Nat :=
  if 0 < d0 then (min 1024 (d * 1024 / d0)).toNat else (Config.openRatio d d0).val

/-- The moisture estimate (R93). -/
def moistureEstimate (wload wend q : Nat) : Nat :=
  if wend < wload then wend + (wload - wend) * q / 1024 else wload

/-- The capture test in FREE-DRY with D0 absent (R92). -/
def State.captureTest (s : State) (k : KilnId) (ton d : Int) : State :=
  match s.lotAt? (.kiln k) with
  | none => s
  | some l =>
    if (s.kiln k).phase = .freeDry ∧ l.d0 = none then
      if ((s.kilnProgram k).tfd : Int) - 10 ≤ ton ∧ 20 ≤ d then
        (s.modLotAt (.kiln k) fun l => { l with d0 := some d }).ended (.vessel (.kiln k)) .kilnDropLow
      else if 30 ≤ (s.kiln k).freeDryMinutes then s.raise (.vessel (.kiln k)) .kilnDropLow
      else s
    else s

/-- Q, the estimate and W under the minimum rule, where D0 is present; in FREE-DRY the break count follows (R93, R94). -/
def State.ratioTest (s : State) (k : KilnId) (d : Int) : State :=
  match (s.lotAt? (.kiln k)).bind (·.d0) with
  | none => s
  | some d0 =>
    let q := dryingRatio d d0
    let wend := (s.kilnProgram k).wend
    let s := s.modLotAt (.kiln k) fun l =>
      { l with q := some q, w := min l.w (moistureEstimate (l.wload.getD l.w) wend q) }
    if (s.kiln k).phase = .freeDry then
      s.withKiln k { s.kiln k with breakCount := if q ≤ (s.kilnProgram k).qb then (s.kiln k).breakCount + 1 else 0 }
    else s

/-- Whether the burner's flame supervision has locked out, which stops the curing counts (R98). -/
def State.lockedOut (s : State) (k : KilnId) : Bool := s.burner? k == some .lockout

/-- The ramp's minute: it rises by Rr to a largest value of Tc, and at Tc the hold begins (R98). In LOCKOUT the whole of it waits:
a ramp setpoint already at or above Tc neither steps down nor begins the hold until the lockout ends (the model's choice, log 51). -/
def State.rampMinute (s : State) (k : KilnId) : State :=
  if s.lockedOut k then s
  else
    let p := s.kilnProgram k
    let ramp := min ((s.kiln k).ramp + p.rr) p.tc
    let s := s.withKiln k { s.kiln k with ramp := ramp, setpoint := ramp }
    if ramp = p.tc then (s.withKiln k { s.kiln k with holdMinutes := 0 }).kilnEnter k .curingHold else s

/-- Whether curing ends: the hold has run and W is at or below Wfinal (R99). -/
def State.curingDue (s : State) (k : KilnId) : Bool :=
  (s.kiln k).phase == .curingHold && decide ((s.kilnProgram k).hc ≤ (s.kiln k).holdMinutes) &&
    (s.lotAt? (.kiln k)).any fun l => decide (l.w ≤ (s.kilnProgram k).wfinal)

/-- Curing ends: the kiln enters COOLING with the setpoint 0, and the sub-state goes with its hold minutes (R97, R99, log 23). -/
def State.kilnCool (s : State) (k : KilnId) : State :=
  (s.withKiln k { s.kiln k with holdMinutes := 0 }).kilnEnter k .cooling

/-- The phase tests of a kiln minute (R91 step 5). -/
def State.phaseTest (s : State) (k : KilnId) (ton : Temp) : State :=
  match (s.kiln k).phase with
  | .freeDry => if s.breakDue k then s.kilnBreak k false else s
  | .curingRamp => s.rampMinute k
  | .curingHold => if s.curingDue k then s.kilnCool k else s
  | .cooling => if ton ≤ (s.kilnProgram k).tcool then s.kilnEnter k .ready else s
  | .empty => s | .loading => s | .ready => s | .unloading => s | .tripped => s

/-! ### The blind kiln (R103) -/

/-- The standby setpoint: the lower of the phase setpoint and 300 (R103). -/
def State.standbySetpoint (s : State) (k : KilnId) : Nat := min (s.phaseSetpoint k (s.kiln k).phase) 300

/-- The work of a blind minute (R103). -/
def State.blindMinute (s : State) (k : KilnId) : State :=
  let s := s.withKiln k { s.kiln k with blindMinutes := (s.kiln k).blindMinutes + 1 }
  let s := s.raise (.vessel (.kiln k)) .kilnBlind
  if 11 ≤ (s.kiln k).blindMinutes then s.setSetpoint k (s.standbySetpoint k) else s

/-- The counts of step 1 (R91): free-dry minutes in FREE-DRY with BREAK-LATE's test, hold minutes in CURING/HOLD under the
conditions of R98. -/
def State.kilnCounts (s : State) (k : KilnId) : State :=
  match (s.kiln k).phase with
  | .freeDry => (s.withKiln k { s.kiln k with freeDryMinutes := (s.kiln k).freeDryMinutes + 1 }).breakLateTest k
  | .curingHold =>
    if (s.kilnAir? k).isSome && !(s.lockedOut k) then
      s.withKiln k { s.kiln k with holdMinutes := (s.kiln k).holdMinutes + 1 }
    else s
  | .empty => s | .loading => s | .curingRamp => s | .cooling => s | .ready => s | .unloading => s | .tripped => s

/-- The end of the blind condition: the count is cleared, KILN-BLIND ends and the phase setpoint is commanded again (R91 step 3,
R103). -/
def State.endBlind (s : State) (k : KilnId) : State :=
  let s := (s.withKiln k { s.kiln k with blindMinutes := 0 }).ended (.vessel (.kiln k)) .kilnBlind
  s.setSetpoint k (s.phaseSetpoint k (s.kiln k).phase)

/-- The kiln minute of FREE-DRY, CURING and COOLING (R91). -/
def State.kilnWork (s : State) (k : KilnId) : State :=
  let s := s.kilnCounts k
  match s.kilnAir? k with
  | none => s.blindMinute k
  | some (ton, toff) =>
    let d := kilnDrop ton toff
    ((((s.endBlind k).captureTest k ton d).ratioTest k d).phaseTest k ton)

/-- A kiln's plant minute: work in FREE-DRY, CURING and COOLING, none elsewhere; a TRIPPED kiln holds its state (R91, R101). -/
def State.kilnMinute (s : State) (k : KilnId) : State :=
  match (s.kiln k).phase with
  | .freeDry => s.kilnWork k
  | .curingRamp => s.kilnWork k
  | .curingHold => s.kilnWork k
  | .cooling => s.kilnWork k
  | .empty => s | .loading => s | .ready => s | .unloading => s | .tripped => s

/-! ### Overheat (R100, R102) -/

/-- A fresh Ton arrives: above Tmax a kiln that is not TRIPPED trips (R100). The blind minutes end with the blind condition
(log 13). -/
def State.tonArrives (s : State) (k : KilnId) (ton : Temp) : State :=
  if (s.kiln k).phase ≠ .tripped ∧ ((s.kilnProgram k).tmax : Int) < ton then
    let left := (s.kiln k).phase
    let s := s.withKiln k { s.kiln k with remembered := some left, setpoint := 0, damperOpen := false, blindMinutes := 0 }
    let s := (s.peatStop k).ended (.vessel (.kiln k)) .kilnBlind
    let s := s.raise (.vessel (.kiln k)) .kilnOverheat
    (s.withKiln k { s.kiln k with phase := .tripped, damperOpen := false }).notifyChange (.vessel (.kiln k)) left.code
      KilnPhase.tripped.code
  else s

/-- A trip is cleared: the remembered phase is entered again with its commands, KILN-OVERHEAT ends, and a kiln back in FREE-DRY
asks for the fire (R102, R107). -/
def State.tripClear (s : State) (k : KilnId) : State :=
  let back := (s.kiln k).remembered.getD .empty
  let s' := s.withKiln k { s.kiln k with
    phase := back, remembered := none, setpoint := s.phaseSetpoint k back, gate := kilnGate back
    damperOpen := back == .freeDry && (s.kiln k).peatGrant }
  let s' := (s'.notifyChange (.vessel (.kiln k)) (s.kiln k).phase.code back.code).ended (.vessel (.kiln k)) .kilnOverheat
  if back = .freeDry then s'.peatAsk k else s'

end Sys2Proof.Machine
end

