-- ==== Sys2Proof/Machine/TransferOps.lean ====
section
/-! DEFINITION. The Lot Table's transfers (R14 to R18): the entry to FLOWING, the two conditions of completion, the completion
into a vessel and to OUT, and the transfer timers. -/

namespace Sys2Proof.Machine

/-! ### FLOWING (R14) -/

/-- The source block of a transfer enters TRANSFER-OUT, a kiln UNLOADING (R14). -/
def State.sourceFlows (s : State) : Vessel → State
  | .steep v => s.steepOut v
  | .box b => s.boxClear b .transferOut
  | .kiln k => s.kilnUnload k

/-- The destination block of a transfer enters LOADING, where the destination is a vessel (R14). No path leads into a steep. -/
def State.destFlows (s : State) : Place → State
  | .vessel (.box b) => s.boxClear b .loading
  | .vessel (.kiln k) => s.kilnEnter k .loading
  | .vessel (.steep _) => s
  | .out => s

/-- A lot's transfer enters FLOWING: its minutes start at 0 under the timeout then stored (R14, R18). -/
def State.startFlowing (s : State) (n : Nat) : State :=
  match s.lot? n with
  | none => s
  | some l =>
    match l.transfer with
    | none => s
    | some t =>
      let s := s.modLot n fun l =>
        { l with transfer := some { t with flowing := true, minutes := 0, timeout := some s.settings.transferTimeout } }
      (s.sourceFlows l.place).destFlows t.dest

/-! ### Completion (R15 to R17) -/

/-- Whether the transfer of a lot passes a sample point: STEEP-OUT or KILN-OUT (1.5). -/
def samplePoint? : Vessel → Option Point
  | .steep _ => some .steepOut
  | .box _ => none
  | .kiln _ => some .kilnOut

/-- Whether the draw of a transfer is resolved, where its path has one (R15). -/
def drawResolved (source : Vessel) (t : Transfer) : Bool := (samplePoint? source).isNone || t.resolved

/-- A vessel is told that it is EMPTY and unoccupied (R16, R17, R20). -/
def State.emptyVessel (s : State) : Vessel → State
  | .steep v => s.steepEmpty v
  | .box b => s.boxClear b .empty
  | .kiln k => s.kilnEmpty k

/-- What LTB sets in a lot's record when it comes to a vessel (R16, R20). -/
def Lot.enter (l : Lot) (p : Vessel) (now : Minute) : Lot :=
  match p with
  | .box _ => { l with place := p, transfer := none, minBox := 0, sinceTurn := some 0, lastTurn := some now }
  | .kiln _ => { l with place := p, transfer := none }
  | .steep _ => { l with place := p, transfer := none }

/-- A vessel is told that it holds a lot in its first state (R16, R20). -/
def State.firstState (s : State) : Vessel → State
  | .steep _ => s
  | .box b => s.boxTend b .tending
  | .kiln k => s.kilnFreeDry k

/-- The completion of a transfer into a vessel (R16). -/
def State.completeInto (s : State) (l : Lot) (t : Transfer) (d : Vessel) : State :=
  let s := s.modLot l.number fun x => x.enter d s.now
  let s := (s.returnReservations t.reserved).ended (.vessel l.place) .transferLate
  let s := s.notify (.transferDone l.number l.place (.vessel d) 0)
  (s.emptyVessel l.place).firstState d

/-- The LOT-OUT entry of a lot (R17). -/
def Lot.lotOut (l : Lot) (t : Transfer) : Entry :=
  let mass := t.outMass.getD 0
  { Entry.blank .lotOut l.number with
    mass := mass, overMass := decide (l.massIn < mass), w := l.w, peatGiven := l.peatGiven
    shortfall := l.shortfall.getD (l.peatTarget - l.peatGiven) }

/-- The completion of a transfer to OUT: the lot is retired (R17). -/
def State.completeOut (s : State) (l : Lot) (t : Transfer) : State :=
  let number := s.journal.next
  let s := s.numberEntry (decide (0 < t.reserved)) (l.lotOut t)
  let s := s.returnReservations (t.reserved - 1)
  let s := s.withLots (s.lots.filter fun x => decide (x.number ≠ l.number))
  let s := s.ended (.vessel l.place) .transferLate
  let s := s.notify (.transferDone l.number l.place .out number)
  s.emptyVessel l.place

/-- Whether the two conditions of R15 hold for a lot's transfer. -/
def State.transferReady (s : State) (l : Lot) (t : Transfer) : Bool :=
  t.flowing && s.bedEmpty l.place && drawResolved l.place t

/-- The completion test of a lot's transfer (R15). -/
def State.transferTest (s : State) (n : Nat) : State :=
  match s.lot? n with
  | none => s
  | some l =>
    match l.transfer with
    | none => s
    | some t =>
      if s.transferReady l t then
        match t.dest with
        | .vessel d => s.completeInto l t d
        | .out => s.completeOut l t
      else s

/-- LTB's part in an accepted cycle: the test for each lot whose place's bed state arrived EMPTY (R15). Several lots are tested in
ascending lot number, which no rule says: the model's choice (log 57). -/
def State.lotsReact (s : State) (came : Vessel → Bool) : State :=
  (s.lots.filter fun l => came l.place && s.bedEmpty l.place).foldl (fun s l => s.transferTest l.number) s

/-! ### The transfer timeout (R18) -/

/-- Whether a transfer's minutes flowing have reached its timeout in force with no alarm raised for it yet (R18). -/
def Transfer.late (t : Transfer) : Bool :=
  t.flowing && !t.lateRaised && t.timeout.any fun x => decide (x ≤ t.minutes)

/-- The test of TRANSFER-LATE for a lot (R18). -/
def State.transferLateTest (s : State) (n : Nat) : State :=
  match s.lot? n with
  | none => s
  | some l =>
    match l.transfer with
    | none => s
    | some t =>
      if t.late then
        (s.modLot n fun l => { l with transfer := some { t with lateRaised := true } }).raise (.vessel l.place) .transferLate
      else s

/-- A lot's record after a plant minute of the transfer timers: 1 more minute flowing (R18). -/
def Lot.flowMinute (l : Lot) : Lot :=
  { l with transfer := l.transfer.map fun t => if t.flowing then { t with minutes := t.minutes + 1 } else t }

/-- The plant minute of the transfer timers (R18). Several transfers that reach their timeouts in one minute raise their alarms in
ascending lot number, which no rule says: the model's choice (log 57). -/
def State.transfersMinute (s : State) : State :=
  let s := s.withLots (s.lots.map Lot.flowMinute)
  s.lots.foldl (fun s l => s.transferLateTest l.number) s

end Sys2Proof.Machine
end

