-- ==== Sys2Proof/Machine/SamplerOps.lean ====
section
/-! DEFINITION. The operations of the Sampler Unit (R116 to R126, R137) and the two endings of a transfer by abort (R19, R20). -/

namespace Sys2Proof.Machine

/-! ### Pots and the sampler's state -/

/-- A pot's record is replaced, with the notice of its state's change (R117). -/
def State.setPot (s : State) (p : PotId) (x : Pot) : State :=
  (s.withPot p x).notifyChange (.pot p) (s.pot p).state.code x.state.code

/-- A pot that holds no sample, in a state. -/
def Pot.bare (x : PotState) : Pot := { state := x, sample := none }

/-- A change of the sampler's state, with its notice (R119). -/
def State.samplerEnter (s : State) (x : SamplerState) : State :=
  (s.withSampler { s.sampler with state := x }).notifyChange .sampler s.sampler.state.code x.code

/-- Whether a pot is READY. -/
def State.anyReady (s : State) : Bool := s.sampler.pots.toList.any (·.state == .ready)

/-- The READY positions, ascending. -/
def State.readyPots (s : State) : List PotId := (List.finRange 24).filter fun p => (s.pot p).state == .ready

/-- The first READY position after the last drawn position, counting upward and wrapping from 24 to 1 (R122 step 1). -/
def State.nextPot? (s : State) : Option PotId :=
  match s.readyPots.find? fun p => decide (s.sampler.lastDrawn < p.val + 1) with
  | some p => some p
  | none => s.readyPots.head?

/-- NO-POT stands while a pending draw waits and no pot is READY (R120). It is reported once as it begins and not again while it
stands, the model's choice (log 66). -/
def State.noPotTest (s : State) : State :=
  if !s.sampler.pending.isEmpty && !s.anyReady then
    (if s.stands .sampler .noPot then s else s.raise .sampler .noPot)
  else s.ended .sampler .noPot

/-! ### The start of a draw (R122) -/

/-- Steps 2 to 4 of R122 for a lot and point at a chosen pot. -/
def State.startDraw (s : State) (d : PendingDraw) (p : PotId) : State :=
  let s := (s.withSampler { s.sampler with lastDrawn := p.val + 1 }).setPot p (Pot.bare .drawing)
  let s := s.withSampler { s.sampler with draw := some { lot := d.lot, point := d.point, pot := p, minutes := 0 } }
  let s := s.samplerEnter .drawing
  s.withSampler { s.sampler with command := some p }

/-- A draw starts for the head of the pending draws where the sampler is IDLE and a pot is READY, and its transfer enters
FLOWING (R122). -/
def State.drawStartTest (s : State) : State :=
  match s.sampler.state, s.sampler.pending, s.nextPot? with
  | .idle, d :: rest, some p =>
    let s := s.startDraw d p
    (s.withSampler { s.sampler with pending := rest }).startFlowing d.lot
  | _, _, _ => s

/-- What SMU tests after a change of its pots, its pending draws or its state: NO-POT and the start of a draw (R120, R122). -/
def State.samplerTest (s : State) : State := (s.noPotTest.drawStartTest).noPotTest

/-! ### The resolution of a draw (R121, R123 to R125) -/

/-- The lot's record after its draw was resolved by the entry of a number: the transfer's sample and collected reservations have
left it (R123, R124). -/
def Lot.resolve (l : Lot) (point : Point) (number : Nat) : Lot :=
  let t := l.transfer.map fun t => { t with resolved := true, reserved := t.reserved - 2 }
  match point with
  | .steepOut => { l with transfer := t, steepOut := some number }
  | .kilnOut => { l with transfer := t, kilnOut := some number }

/-- A MISSED entry is written: it consumes the sample reservation, and the collected reservation is returned (R121, R124, R125). -/
def State.writeMissed (s : State) (d : PendingDraw) (reason : MissedReason) : State :=
  (s.numberEntry true { Entry.blank .missed d.lot with point := some d.point, reason := some reason }).returnReservations 1

/-- The sampler after a draw: no draw record, the command NONE, state CLEARING (R123 to R125). -/
def State.drawOver (s : State) : State :=
  (s.withSampler { s.sampler with draw := none, command := none }).samplerEnter .clearing

/-- A draw that ends without a sample: MISSED, the pot as it is left, the number in the lot's record, and where asked the report
to LTB (R124, R125). -/
def State.drawMissed (s : State) (d : Draw) (reason : MissedReason) (left : PotState) (report : Bool) : State :=
  let number := s.journal.next
  let s := (s.writeMissed { lot := d.lot, point := d.point } reason).setPot d.pot (Pot.bare left)
  let s := s.modLot d.lot fun l => l.resolve d.point number
  (if report then s.transferTest d.lot else s).drawOver

/-- A draw status of DONE ends a draw: SAMPLE with the lot's W, the pot FILLED, the report to LTB, CLEARING (R123). -/
def State.drawDone (s : State) : State :=
  match s.sampler.state, s.sampler.draw with
  | .drawing, some d =>
    let number := s.journal.next
    let w := ((s.lot? d.lot).map (·.w)).getD 0
    let s := s.numberEntry true { Entry.blank .sample d.lot with point := some d.point, pot := d.pot.val + 1, w := w }
    let s := s.setPot d.pot { state := .filled, sample := some { lot := d.lot, point := d.point, number } }
    let s := s.modLot d.lot fun l => l.resolve d.point number
    ((s.transferTest d.lot).drawOver).samplerTest
  | _, _ => s

/-- A draw fails (R124). -/
def State.drawFail (s : State) : State :=
  match s.sampler.state, s.sampler.draw with
  | .drawing, some d => (s.drawMissed d .drawFailed .spoiled true).samplerTest
  | _, _ => s

/-- LTB cancels a lot's draw, as part of an abort (R125). -/
def State.drawCancel (s : State) (lot : Nat) : State :=
  match s.sampler.draw with
  | some d => if d.lot = lot then s.drawMissed d .aborted .spoiled false else s
  | none => s

/-- A sample-point transfer accepted in PASS mode is handed over, already FLOWING (R121). -/
def State.passDraw (s : State) (d : PendingDraw) : State :=
  let idle := s.sampler.state == .idle && s.sampler.pending.isEmpty
  match idle, s.nextPot? with
  | true, some p => s.startDraw d p
  | _, _ =>
    let number := s.journal.next
    let s := s.writeMissed d (if idle then .noPot else .samplerBusy)
    (s.modLot d.lot fun l => l.resolve d.point number).transferTest d.lot

/-- A transfer accepted in HOLD mode joins the pending draws (R120). -/
def State.joinPending (s : State) (d : PendingDraw) : State :=
  (s.withSampler { s.sampler with pending := s.sampler.pending ++ [d] }).samplerTest

/-! ### Presence (R118) and the clearing (R126) -/

/-- One position of a mask against its pot record (R118). -/
def State.potEvent (s : State) (p : PotId) (present : Bool) : State :=
  match (s.pot p).state, present with
  | .absent, true => (s.setPot p (Pot.bare .ready)).samplerTest
  | .ready, false => (s.setPot p (Pot.bare .absent)).samplerTest
  | .spoiled, false => (s.setPot p (Pot.bare .absent)).samplerTest
  | .unknown, false => (s.setPot p (Pot.bare .absent)).samplerTest
  | .filled, false =>
    let x := (s.pot p).sample
    let s := s.numberEntry true
      { Entry.blank .collected ((x.map (·.lot)).getD 0) with pot := p.val + 1, ref := (x.map (·.number)).getD 0 }
    (s.setPot p (Pot.bare .absent)).samplerTest
  | .drawing, false =>
    match s.sampler.draw with
    | some d => (s.drawMissed d .aborted .absent true).samplerTest
    | none => s
  | .absent, false => s
  | .ready, true => s | .drawing, true => s | .filled, true => s | .spoiled, true => s | .unknown, true => s

/-- The pot position a bit of a mask stands for. -/
def maskPot (upper : Bool) (i : Fin 12) : PotId := ⟨i.val + (if upper then 12 else 0), by split <;> omega⟩

/-- The presence events of one mask, in ascending position order (R116); none in REBUILDING. -/
def State.maskEvents (s : State) (upper : Bool) (mask : BitVec 12) : State :=
  if s.sampler.state = .rebuilding then s
  else (List.finRange 12).foldl (fun s i => s.potEvent (maskPot upper i) (mask.getLsbD i.val)) s

/-- A draw status of IDLE in CLEARING returns the sampler to IDLE, and a waiting draw may start (R126). -/
def State.clearingEnd (s : State) : State :=
  if s.sampler.state = .clearing then (s.samplerEnter .idle).samplerTest else s

/-- A draw status arrives (R116). -/
def State.statusArrives (s : State) (x : DrawStatus) : State :=
  match x with
  | .done => s.drawDone
  | .failed => s.drawFail
  | .idle => s.clearingEnd
  | .drawing => s

/-! ### The rebuild (R137) -/

/-- A COLLECTED entry written at start-up for an open sample (R137). -/
def State.collectAtStartUp (s : State) (lot pot ref : Nat) : State :=
  s.numberEntry true { Entry.blank .collected lot with pot := pot, ref := ref, atStartUp := true }

/-- The pot position of an open sample, where its record names one. -/
def potOf? (n : Nat) : Option PotId := if h : 1 ≤ n ∧ n ≤ 24 then some ⟨n - 1, by omega⟩ else none

/-- One open sample of the rebuild: it claims a PRESENT position, displacing an earlier one, or is written as collected (R137). -/
def State.claimPot (present : Vector Bool 24) (s : State) (x : OpenSample) : State :=
  match potOf? x.position with
  | none => s.collectAtStartUp x.lot x.position x.number
  | some p =>
    if present[p] then
      let earlier := (s.pot p).sample
      let s := s.setPot p { state := .filled, sample := some { lot := x.lot, point := x.point, number := x.number } }
      match earlier with
      | some y => s.collectAtStartUp y.lot x.position y.number
      | none => s
    else s.collectAtStartUp x.lot x.position x.number

/-- The rebuild of the pot records, where the open samples have come and both masks are fresh (R137). After the claims the unclaimed
PRESENT positions become UNKNOWN by ascending position: an order R137 does not give, the model's choice (log 39). -/
def State.rebuildTest (s : State) : State :=
  match s.sampler.state, s.sampler.openSamples, s.presence? with
  | .rebuilding, some samples, some present =>
    let s := s.withSampler { s.sampler with openSamples := none }
    let s := samples.foldl (State.claimPot present) s
    let s := ((List.finRange 24).filter fun p => present[p]).foldl
      (fun s p => if (s.pot p).state = .absent then s.setPot p (Pot.bare .unknown) else s) s
    let s := s.withSampler { s.sampler with
      lastDrawn := s.newestSamplePot s.heldCount (s.journal.next - 1), command := none }
    (s.samplerEnter .clearing).samplerTest
  | _, _, _ => s

/-- A presence mask arrives: the rebuild in REBUILDING, presence events elsewhere (R116). -/
def State.maskArrives (s : State) (upper : Bool) (mask : BitVec 12) : State :=
  if s.sampler.state = .rebuilding then s.rebuildTest else s.maskEvents upper mask

/-! ### The sampler's minute (R122, R124) -/

/-- Whether the draw minutes have reached 10 (R124). -/
def State.drawLate (s : State) : Bool := s.sampler.state == .drawing && s.sampler.draw.any fun d => decide (10 ≤ d.minutes)

/-- The test of the draw timeout (R124). -/
def State.drawTimeoutTest (s : State) : State := if s.drawLate then s.drawFail else s

def State.samplerMinute (s : State) : State :=
  if s.sampler.state = .drawing then
    (s.withSampler { s.sampler with draw := s.sampler.draw.map fun d => { d with minutes := d.minutes + 1 } }).drawTimeoutTest
  else s

/-! ### Abort (R19, R20) -/

/-- The abort of a PENDING transfer (R19). -/
def State.abortPending (s : State) (l : Lot) (t : Transfer) : State :=
  let s := s.withSampler { s.sampler with pending := s.sampler.pending.filter fun d => decide (d.lot ≠ l.number) }
  let s := (s.returnReservations t.reserved).noPotTest
  s.modLot l.number fun x => { x with transfer := none }

/-- The place that keeps the lot of an aborted FLOWING transfer (R20 step 2). -/
def State.keeper (s : State) (l : Lot) (t : Transfer) : Vessel :=
  match t.dest with
  | .vessel d => if s.bedLoaded d then d else l.place
  | .out => l.place

/-- The keeping source takes its finished state (R20 step 3). -/
def State.sourceKeeps (s : State) : Vessel → State
  | .steep v => s.steepEnter v .done
  | .box b => if s.boxMinutesReached b then s.boxEnter b .ready else s.boxTend b .tending
  | .kiln k => s.kilnEnter k .ready

/-- The abort of a FLOWING transfer, with the place that kept the lot (R20). A source that keeps the lot has its notice before the
destination that is emptied, which R20 does not say: the model's choice (log 39). -/
def State.abortFlowing (s : State) (l : Lot) : State × Vessel :=
  let s := s.drawCancel l.number
  match (s.lot? l.number).bind (·.transfer) with
  | none => (s, l.place)
  | some t =>
    let keep := s.keeper l t
    let s := s.returnReservations t.reserved
    let s := s.ended (.vessel l.place) .transferLate
    if keep = l.place then
      let s := s.modLot l.number fun x => { x with transfer := none }
      let s := s.sourceKeeps l.place
      (match t.dest with | .vessel d => s.emptyVessel d | .out => s, keep)
    else
      let s := s.modLot l.number fun x => x.enter keep s.now
      ((s.emptyVessel l.place).firstState keep, keep)

end Sys2Proof.Machine
end

