-- ==== Sys2Proof/Machine/LinkOps.lean ====
section
/-! DEFINITION. The Field Link Head (R148 to R160): the command image, slot decoding, the turnaround window, roll call, plans
coming into force, the taking of an accepted cycle with the reactions of the blocks, short chains, lost stations, LINK-DOWN and
the end of a cycle period. -/

namespace Sys2Proof.Machine

/-! ### Stations, sites and the command image (R149) -/

/-- The site a serial is bound to (R150). -/
def State.siteOf? (s : State) (n : Serial) : Option Site :=
  ((List.finRange 19).find? fun i => s.settings.bindings[i] == some n).map Site.ofIndex

/-- The roster entry at a position. -/
def State.rosterAt? (s : State) (p : Nat) : Option RosterEntry := s.link.roster.find? (·.position == p)

/-- The alarm source of a station position (R138). -/
def stationSource (p : Nat) : Source := .station (Fin.ofNat 30 (p - 1))

/-- A kiln's gate and damper as one command (log 7). -/
def gateDamperCode (g : Gate) (damperOpen : Bool) : Nat := g.code + (if damperOpen then 3 else 0)

/-- The code of a kiln holding the fire, or of NONE, as the route command carries it in its slot (log 7). -/
def routeCode (k : Option KilnId) : Nat :=
  match k with
  | none => 1
  | some k => k.val + 2

/-- The command image entry of a site: what its owning block last wrote (R149). -/
def State.commandCode (s : State) (x : Site) (c : Command) : Nat :=
  match x with
  | .vessel (.steep v) =>
    match c with
    | .fillValve => if (s.steep v).valveOpen then 2 else 1
    | .outlet => (s.steep v).outlet.code
    | .air => (s.steep v).air.code
    | _ => 0
  | .vessel (.box b) =>
    match c with
    | .fan => (s.box b).fan
    | .gate => (s.box b).gate.code
    | _ => 0
  | .vessel (.kiln k) =>
    match c with
    | .setpoint => (s.kiln k).setpoint
    | .gateDamper => gateDamperCode (s.kiln k).gate (s.kiln k).damperOpen
    | _ => 0
  | .turner =>
    match c with
    | .target => s.turner.target.val
    | .action => s.turner.action.code
    | _ => 0
  | .peat => routeCode s.peat.route
  | .sampler => (s.sampler.command).elim 0 fun p => p.val + 1

/-! ### Plans and bursts (R153 to R155) -/

/-- The bits of an upstream slot: 17 FULL, 13 PACKED (R152). -/
def Slot.bits (x : Slot) : Nat := match x.format with | .full => 17 | .packed => 13

/-- The upstream and downstream bit totals of a plan (R153). -/
def Plan.upBits (p : Plan) : Nat := (p.stations.map fun t => (t.ups.map Slot.bits).sum).sum
def Plan.downBits (p : Plan) : Nat := (p.stations.map fun t => 17 * t.downs.length).sum

/-- What an announcement gives the planned stations: each its slots, and the response offset of the next one down the chain plus
15 as its deadline (R154). -/
def State.announced (s : State) : List PlanStation → List Announced
  | [] => []
  | [t] => [{ position := t.position, serial := t.serial, ups := t.ups, downs := t.downs, deadline := none }]
  | t :: u :: rest =>
    { position := t.position, serial := t.serial, ups := t.ups, downs := t.downs
      deadline := (s.rosterAt? u.position).map fun e => e.offset + 15 } :: s.announced (u :: rest)

/-- The number of ones in a word. -/
def ones {n : Nat} (x : BitVec n) : Nat := (List.finRange n).countP fun i => x.getLsbD i.val

/-- A command as its slot carries it: FULL, with the parity bit that makes the number of ones even (R152). -/
def commandSlot (c : Command) (code : Nat) : CommandSlot :=
  let value := BitVec.ofNat 16 code
  { command := c, value, parity := ones value % 2 == 1 }

/-- The command slots of every planned station, in position order (R155). -/
def State.runCommands (s : State) (p : Plan) : List StationCommands :=
  p.stations.map fun t =>
    { position := t.position
      commands := match s.siteOf? t.serial with
        | some x => t.downs.map fun c => commandSlot c (s.commandCode x c)
        | none => [] }

/-- The group field: the cycle count modulo 4 (R155). -/
def State.groupField (s : State) : Nat := s.link.cycleCount.toNat % 4

/-! ### Slots (R152) -/

/-- Whether a slot's number of ones, its parity bit included, is even. -/
def rawSlotParity (x : RawSlot) : Bool :=
  match x with
  | .full v p => (ones v + p.toNat) % 2 == 0
  | .packed e m p => (ones e + ones m + p.toNat) % 2 == 0

/-- A PACKED slot's value: the middle of its interval (R152). -/
def decodePacked (e : Nat) (m : Int) : Int := if e = 0 then m else m * 2 ^ e + 2 ^ (e - 1)

/-- The clamp of a decoded temperature (R152). -/
def clampTemp (v : Int) : Int := max (-400) (min 1500 v)

/-- The number a slot carries under its planned format: signed for a VALUE, 16 bits for a STATE. -/
def rawValue? (x : Slot) (w : RawSlot) : Option Int :=
  match x.format, w with
  | .full, .full v _ => some (if x.reading.isValue then v.toInt else v.toNat)
  | .packed, .packed e m _ => some (decodePacked e.toNat m.toInt)
  | _, _ => none

/-- The value a slot gives, where it is not a failed slot (R152). -/
def decodeSlot? (x : Slot) (w : RawSlot) : Option Int :=
  if rawSlotParity w then
    match rawValue? x w with
    | none => none
    | some v =>
      if x.reading.admits v then some (if x.reading.isTemperature then clampTemp v else v) else none
  else none

/-! ### The turnaround window (R156) -/

/-- Whether an arrival lies within −4..+15 of an offset. -/
def inWindow (offset base : Int) : Bool := decide (base - 4 ≤ offset ∧ offset ≤ base + 15)

/-- The judgement of an unmarked burst: the E after an accepted cycle, or none for a missed turnaround. The window is anchored
to E0 (log 14). -/
def judge? (e : Option Int) (e0 offset : Int) : Option Int :=
  if inWindow offset e0 then
    match e with
    | some x => if x - 2 ≤ offset ∧ offset ≤ x + 2 then some x else some offset
    | none => some offset
  else none

/-- E0, the programmed turnaround offset of the held plan (R148). -/
def State.e0? (s : State) : Option Int := s.settings.plan.map (·.e0)

/-- The judgement of a returning burst, marked or not: E after it where it is accepted (R156, R158). -/
def State.judgeBurst (s : State) (mark : Option Nat) (offset : Int) (headerOk : Bool) : Option (Option Int) :=
  if headerOk then
    match mark with
    | some m =>
      match s.rosterAt? m with
      | some e => if inWindow offset e.offset then some s.link.expected else none
      | none => none
    | none =>
      match s.e0? with
      | some e0 => (judge? s.link.expected e0 offset).map some
      | none => none
  else none

/-! ### Link state -/

/-- A change of link state, with its notice (R148). -/
def State.linkEnter (s : State) (x : LinkState) : State :=
  if s.link.state = x then s else (s.withLink { s.link with state := x }).notify (.linkState s.link.state x)

/-- LINK-DOWN (R157). A burst still out is not judged. -/
def State.goDown (s : State) : State :=
  ((s.withLink { s.link with expected := s.e0?, retry := 0, missed := 0, returned := true }).linkEnter .down).raise .link .linkDown

/-- Whether 8 consecutive misses put the link down: from LINK-RUN or from an announcement not yet accepted (R157). -/
def State.linkDownDue (s : State) : Bool :=
  decide (8 ≤ s.link.missed) && (s.link.state == .run || (s.link.state == .idle && s.link.announcing))

/-- A missed turnaround: the cycle's readings are discarded (R156, R157). -/
def State.missedTurnaround (s : State) : State :=
  let s := s.withLink { s.link with missed := s.link.missed + 1, returned := true }
  if s.linkDownDue then s.goDown else s

/-- An accepted cycle as the link record sees it (R156). -/
def State.acceptCycle (s : State) (e : Option Int) : State :=
  s.withLink { s.link with expected := e, missed := 0, returned := true }

/-! ### Roll call (R151) -/

/-- Every STATION-LOST condition ends. -/
def State.endStationLost (s : State) (positions : List Nat) : State :=
  positions.foldl (fun s p => s.ended (stationSource p) .stationLost) s

/-- A roll call begins (R151). The missed count starts afresh with it, so that LINK-DOWN from a later announcement or run takes eight
periods in a row (R157, log 29). -/
def State.beginRollCall (s : State) (startUp : Bool) : State :=
  let s := s.withLink { s.link with
    force := none, image := [], announcing := false, roster := [], duplicates := 0, probePosition := 1, unanswered := 0
    sent := .none, returned := false, startUpRoll := startUp, missed := 0 }
  let s := ((s.ended .link .linkDown).ended .link .shortChain).endStationLost ((List.range 30).map (· + 1))
  (s.ended .link .planMismatch).linkEnter .rollCall

/-- Whether every station of a plan was found at its position with its serial and is bound (R160). -/
def State.planMatches (s : State) (p : Plan) : Bool :=
  p.stations.all fun t => s.link.roster.any fun e =>
    e.position == t.position && e.serial == t.serial && (s.siteOf? e.serial).isSome

/-- The response offset of the roster entry at a plan's highest position (R153). -/
def State.planOffset (s : State) (stations : List PlanStation) : Int :=
  ((stations.getLast?).bind fun t => (s.rosterAt? t.position).map (·.offset)).getD 0

/-- A held plan waits to be announced (R153, R154). -/
def State.holdPlan (s : State) (stations : List PlanStation) : State :=
  let s := s.withSettings { s.settings with plan := some { stations, e0 := s.planOffset stations } }
  s.withLink { s.link with announcing := true }

/-- The test of the stored plan after an automatic roll call (R160). -/
def State.storedPlanTest (s : State) : State :=
  match s.settings.plan with
  | none => s
  | some p => if s.planMatches p then s.holdPlan p.stations else s.raise .link .planMismatch

/-- The end of a roll call (R151, R160). -/
def State.endRollCall (s : State) : State :=
  let startUp := s.link.startUpRoll
  let s := (s.withLink { s.link with startUpRoll := false, returned := true }).linkEnter .idle
  if startUp then s.storedPlanTest else s

/-- An accepted answer of the probed position (R151). -/
def State.takeAnswer (s : State) (p : Nat) (a : ProbeAnswer) : State :=
  let s :=
    if s.link.roster.any (·.serial == a.serial) then s.withLink { s.link with duplicates := s.link.duplicates + 1 }
    else s.withLink { s.link with roster := s.link.roster ++
      [{ position := p, kind := a.kind, serial := a.serial, offset := a.offset, failCount := 0
         state := if (s.siteOf? a.serial).isSome then .bound else .found }] }
  let s := s.withLink { s.link with unanswered := 0, returned := true }
  if 30 ≤ p then s.endRollCall else s.withLink { s.link with probePosition := p + 1 }

/-- Whether a probe's answer is accepted (R151). -/
def answerGood (expected : Int) (a : ProbeAnswer) : Bool := a.parityOk && inWindow a.offset expected

/-! ### A plan into force (R154) -/

/-- The entries of the reading image for a plan: a slot the image already had keeps its value and age (R149). -/
def imageFor (old : List ImageEntry) (p : Plan) : List ImageEntry :=
  p.stations.flatMap fun t => (t.ups.filter fun x => !x.reading.isZone).map fun x =>
    (old.find? fun e => e.serial == t.serial && e.reading == x.reading).getD
      { serial := t.serial, reading := x.reading, value := none, age := 0, fed := false }

/-- Whether a plan names a roster entry. -/
def Plan.names (p : Plan) (e : RosterEntry) : Bool := p.stations.any fun t => t.position == e.position && t.serial == e.serial

/-- A roster entry when a plan comes into force (R154). -/
def RosterEntry.under (p : Plan) (e : RosterEntry) : RosterEntry :=
  if p.names e then { e with state := .active, failCount := 0 }
  else match e.state with
    | .active => { e with state := .bound }
    | .lost => { e with state := .bound }
    | .found => e
    | .bound => e

/-- The held plan comes into force (R154). -/
def State.planIntoForce (s : State) : State :=
  match s.settings.plan with
  | none => s
  | some p =>
    let lost := (s.link.roster.filter (·.state == .lost)).map (·.position)
    let s := s.withLink { s.link with
      force := some p, announcing := false, image := imageFor s.link.image p, expected := some p.e0
      roster := s.link.roster.map (RosterEntry.under p) }
    ((s.endStationLost lost).linkEnter .run).ended .link .linkDown

/-! ### Taking the readings of an accepted cycle (R149, R152, R155) -/

/-- The readings that arrived in one cycle. -/
abbrev Arrivals := List (Serial × Reading × Int)

/-- The slots a burst carries for a planned station; below a mark there are none (R158). -/
def slotsOf (b : Burst) (mark : Option Nat) (t : PlanStation) : List RawSlot :=
  if mark.any fun m => decide (m < t.position) then []
  else ((b.stations.find? (·.position == t.position)).map (·.slots)).getD []

/-- The readings of a burst whose slots passed, over a plan. -/
def arrivalsOf (p : Plan) (b : Burst) (mark : Option Nat) : Arrivals :=
  p.stations.flatMap fun t => (t.ups.zip (slotsOf b mark t)).filterMap fun x =>
    (decodeSlot? x.1 x.2).map fun v => (t.serial, x.1.reading, v)

/-- The value of a station's reading among the arrivals. -/
def cameFrom? (a : Arrivals) (n : Serial) (r : Reading) : Option Int :=
  (a.find? fun x => x.1 == n && x.2.1 == r).map (·.2.2)

/-- The value of a site's reading among the arrivals. -/
def State.came? (s : State) (a : Arrivals) (x : Site) (r : Reading) : Option Int :=
  (s.serialOf? x).bind fun n => cameFrom? a n r

/-- The reading image after an accepted cycle: every entry whose slot passed takes its value (R155). -/
def imageAfter (a : Arrivals) (old : List ImageEntry) : List ImageEntry :=
  old.map fun e =>
    match cameFrom? a e.serial e.reading with
    | some v => { e with value := some v, age := 0, fed := true }
    | none => e

/-- The zone slot that carries a zone, by its place in its group (R52). -/
def zoneSlot (z : ZoneId) : Reading := if z.val % 3 = 0 then .zoneA else if z.val % 3 = 1 then .zoneB else .zoneC

/-- A zone's entry after an accepted cycle whose echo named a group (R52). -/
def State.zoneAfter (s : State) (a : Arrivals) (b : BoxId) (g : Int) (z : ZoneId) : Zone :=
  if ((z.val / 3 : Nat) : Int) = g then
    match s.came? a (boxSite b) (zoneSlot z) with
    | some v => { value := some v, age := 0, fed := true }
    | none => (s.box b).zones[z]
  else (s.box b).zones[z]

/-- A box's zone grid after an accepted cycle: the zone slots that passed go to the zones of the echoed group (R52). -/
def State.fillZones (s : State) (a : Arrivals) (b : BoxId) : State :=
  match s.came? a (boxSite b) .echo with
  | none => s
  | some g => s.withBox b { s.box b with zones := Vector.ofFn (s.zoneAfter a b g) }

/-- The readings of one accepted cycle enter the image and the zone grids together (R155). -/
def State.takeReadings (s : State) (a : Arrivals) : State :=
  (List.finRange 8).foldl (fun s b => s.fillZones a b) (s.withLink { s.link with image := imageAfter a s.link.image })

/-! ### Fail counts and lost stations (R158, R159) -/

/-- The roster entry at a position changed. -/
def State.modRoster (s : State) (p : Nat) (f : RosterEntry → RosterEntry) : State :=
  s.withLink { s.link with roster := s.link.roster.map fun e => if e.position = p then f e else e }

/-- A station becomes LOST, with its alarm (R158, R159). -/
def State.loseStation (s : State) (p : Nat) : State :=
  (s.modRoster p fun e => { e with state := .lost }).raise (stationSource p) .stationLost

/-- A LOST station becomes ACTIVE again (R158, R159). -/
def State.regainStation (s : State) (p : Nat) : State :=
  if (s.rosterAt? p).any (·.state == .lost) then
    (s.modRoster p fun e => { e with state := .active }).ended (stationSource p) .stationLost
  else s

/-- Whether a planned station with upstream slots has failed in 50 accepted cycles in a row and is not yet LOST (R159). -/
def State.stationFailed (s : State) (p : Nat) : Bool :=
  s.link.force.any (fun f => f.stations.any fun t => t.position == p && !t.ups.isEmpty) &&
    (s.rosterAt? p).any fun e => decide (50 ≤ e.failCount) && e.state == .active

/-- The test that makes a station LOST by its count (R159). -/
def State.stationLostTest (s : State) (p : Nat) : State := if s.stationFailed p then s.loseStation p else s

/-- The fail count of one planned station after an accepted cycle (R159): it is 0 after a slot that passed its parity check, and
otherwise 1 more, to a largest value of 50. -/
def State.countFails (b : Burst) (mark : Option Nat) (s : State) (t : PlanStation) : State :=
  if t.ups.isEmpty || mark.any (fun m => decide (m < t.position)) then s
  else if ((slotsOf b mark t).take t.ups.length).any rawSlotParity then
    (s.modRoster t.position fun e => { e with failCount := 0 }).regainStation t.position
  else
    (s.modRoster t.position fun e => { e with failCount := min 50 (e.failCount + 1) }).stationLostTest t.position

/-- An accepted marked cycle: the stations below the mark are LOST, by ascending position, and then SHORT-CHAIN is raised (R158). The
order of these alarms, and that they follow the fail counts', is the model's choice (logs 39 and 41). -/
def State.shortChain (s : State) (stations : List PlanStation) (m : Nat) : State :=
  let s := s.withLink { s.link with shortPosition := some m }
  let s := (stations.filter fun t => decide (m < t.position)).foldl
    (fun s t => if (s.rosterAt? t.position).any (·.state == .lost) then s else s.loseStation t.position) s
  s.raise .link .shortChain

/-- An accepted cycle without a mark: SHORT-CHAIN ends, and then the LOST stations without upstream slots are ACTIVE again, by ascending
position (R158): an order that is the model's choice (log 39). -/
def State.wholeChain (s : State) (stations : List PlanStation) : State :=
  let s := (s.withLink { s.link with shortPosition := none }).ended .link .shortChain
  (stations.filter fun t => t.ups.isEmpty).foldl (fun s t => s.regainStation t.position) s

/-- The planned stations: those of the plan in force, or none (R154, R158). -/
def State.planned (s : State) : List PlanStation := (s.link.force.map (·.stations)).getD []

/-- What an accepted cycle says of the chain, marked or not (R158). -/
def State.chainState (s : State) : Option Nat → State
  | some m => s.shortChain s.planned m
  | none => s.wholeChain s.planned

/-! ### The reactions of the blocks (R155) -/

/-- A steep's reaction (R23): its delivered volume, then its level state. -/
def State.steepReacts (s : State) (a : Arrivals) (v : SteepId) : State :=
  let s := match s.came? a (steepSite v) .delivered with | some x => s.volumeArrives v x | none => s
  match (s.came? a (steepSite v) .level).bind Level.ofCode? with | some x => s.levelArrives v x | none => s

/-- A kiln's reaction (R84). -/
def State.kilnReacts (s : State) (a : Arrivals) (k : KilnId) : State :=
  match s.came? a (kilnSite k) .ton with | some x => s.tonArrives k x | none => s

/-- The turner's reaction (R70): its position, then its motion. -/
def State.turnerReacts (s : State) (a : Arrivals) : State :=
  let s := match (s.came? a .turner .position).bind RailPos.ofCode? with | some x => s.positionArrives x | none => s
  match (s.came? a .turner .motion).bind Motion.ofCode? with | some x => s.motionArrives x | none => s

/-- The peat fire's reaction (R105). -/
def State.peatReacts (s : State) (a : Arrivals) : State :=
  match (s.came? a .peat .fireState).bind Fire.ofCode? with | some x => s.fireArrives x | none => s

/-- The sampler's reaction (R116): the lower mask, the upper mask, then the draw status. -/
def State.samplerReacts (s : State) (a : Arrivals) : State :=
  let s := match (s.came? a .sampler .presenceLow).bind presenceMask? with | some x => s.maskArrives false x | none => s
  let s := match (s.came? a .sampler .presenceHigh).bind presenceMask? with | some x => s.maskArrives true x | none => s
  match (s.came? a .sampler .drawStatus).bind DrawStatus.ofCode? with | some x => s.statusArrives x | none => s

/-- Whether a vessel's bed state is among the arrivals. -/
def State.bedCame (s : State) (a : Arrivals) : Vessel → Bool
  | .steep v => (s.came? a (steepSite v) .level).isSome
  | .box b => (s.came? a (boxSite b) .boxBed).isSome
  | .kiln k => (s.came? a (kilnSite k) .kilnBed).isSome

/-- One block acts on the readings of an accepted cycle. -/
def State.react (a : Arrivals) (s : State) : Reactor → State
  | .steep v => s.steepReacts a v
  | .kiln k => s.kilnReacts a k
  | .turner => s.turnerReacts a
  | .peat => s.peatReacts a
  | .sampler => s.samplerReacts a
  | .lots => s.lotsReact (s.bedCame a)

/-- Every block that acts on readings as they arrive. -/
def Reactor.all : List Reactor :=
  (List.finRange 6).map .steep ++ (List.finRange 2).map .kiln ++ [.turner, .peat, .sampler, .lots]

/-- A chosen order made whole: each once, those it leaves out behind it. -/
def completeOrder {α : Type} [DecidableEq α] (order all : List α) : List α := (order ++ all).eraseDups

/-- An accepted cycle under the plan in force: its readings, the fail counts, the chain, then the blocks in an order no rule sets
(R155, R158, R159). -/
def State.takeCycle (s : State) (mark : Option Nat) (b : Burst) (order : List Reactor) : State :=
  match s.link.force with
  | none => s
  | some p =>
    let a := arrivalsOf p b mark
    let s := (p.stations.foldl (State.countFails b mark) (s.takeReadings a)).chainState mark
    (completeOrder order Reactor.all).foldl (State.react a) s

/-! ### Returning bursts -/

/-- A run cycle's burst returns (R155, R156, R158). -/
def State.runReturns (s : State) (mark : Option Nat) (b : Burst) (order : List Reactor) : State :=
  match s.judgeBurst mark b.offset b.headerOk with
  | some e => (s.acceptCycle e).takeCycle mark b order
  | none => s.missedTurnaround

/-- Whether the burst sent carries the announcement of the held plan: a SLOT-PLAN accepted since it was sent replaces the plan it
carried (R154). -/
def State.carriesHeld (s : State) : Bool :=
  match s.link.sent, s.settings.plan with
  | .announcement x, some p => x == s.announced p.stations
  | .tried x _ _, some p => x == s.announced p.stations
  | _, _ => false

/-- An announcement returns (R154, R156, R158). One whose plan was replaced since it was sent brings nothing into force (log 33); its
mark, or that it has none, counts all the same, and with no plan in force there is no planned station to be LOST. -/
def State.announcementReturns (s : State) (mark : Option Nat) (offset : Int) (headerOk : Bool) : State :=
  match s.judgeBurst mark offset headerOk with
  | some e =>
    (if s.carriesHeld then (s.acceptCycle e).planIntoForce else s.acceptCycle e).chainState mark
  | none => s.missedTurnaround

/-- A tried cycle returns (R157): accepted, it returns the link to LINK-RUN; with no plan in force it brings the held one in. -/
def State.triedReturns (s : State) (mark : Option Nat) (b : Burst) (order : List Reactor) : State :=
  if s.link.force.isNone then s.announcementReturns mark b.offset b.headerOk
  else
    match s.judgeBurst mark b.offset b.headerOk with
    | some e => (((s.acceptCycle e).linkEnter .run).ended .link .linkDown).takeCycle mark b order
    | none => s.missedTurnaround

/-! ### The cycle period (R148, R149) -/

/-- An unanswered probe: the third in a row ends the roll call (R151). -/
def State.unansweredProbe (s : State) : State :=
  let s := s.withLink { s.link with unanswered := s.link.unanswered + 1, returned := true }
  if 3 ≤ s.link.unanswered then s.endRollCall else s

/-- What the end of a period makes of a burst that did not return in it. -/
def State.judgeSilence (s : State) : State :=
  if s.link.returned then s
  else
    match s.link.sent with
    | .none => s
    | .probe .. => if s.link.state = .rollCall then s.unansweredProbe else s
    | .announcement .. => s.missedTurnaround
    | .run .. => s.missedTurnaround
    | .tried .. => s.missedTurnaround

/-- The age of an image entry at the end of a period (R149). -/
def ImageEntry.tick (e : ImageEntry) : ImageEntry :=
  if e.fed then { e with age := 0, fed := false } else { e with age := min Config.ageLimit (e.age + 1) }

/-- The age of a zone entry at the end of a period (R52). -/
def Zone.tick (z : Zone) : Zone :=
  if z.fed then { z with age := 0, fed := false } else { z with age := min Config.ageLimit (z.age + 1) }

/-- A box after a period: every zone of its grid is older (R52). -/
def Box.tick (x : Box) : Box := { x with zones := x.zones.map Zone.tick }

/-- The counts and ages at the end of a period (R148, R149, R52), and the period a write under way has taken (R130). -/
def State.endPeriod (s : State) : State :=
  let s := s.withLink { s.link with cycleCount := s.link.cycleCount + 1, image := s.link.image.map ImageEntry.tick }
  ({ s with boxes := s.boxes.map Box.tick } : State).timeWrite

/-- A burst is sent. -/
def State.send (s : State) (b : SentBurst) : State := s.withLink { s.link with sent := b, returned := false }

/-- The tried cycle: the announcement of the plan in force ahead of its slots, or the held plan's announcement alone (R157). -/
def State.sendTried (s : State) : State :=
  let s := s.withLink { s.link with retry := 0 }
  match s.link.force, s.settings.plan with
  | some p, _ => s.send (.tried (s.announced p.stations) s.groupField (some (s.runCommands p)))
  | none, some p => s.send (.tried (s.announced p.stations) s.groupField none)
  | none, none => s.send .none

/-- Whether a tried cycle is due (R157). -/
def State.triedDue (s : State) : Bool := s.link.state == .down && decide (50 ≤ s.link.retry)

/-- The announcement of the held plan (R154). -/
def State.sendAnnouncement (s : State) : State :=
  match s.settings.plan with
  | some p => s.send (.announcement (s.announced p.stations))
  | none => s.send .none

/-- The burst of the period that begins, by the link's state (R151, R154, R155, R157). -/
def State.sendBurst (s : State) : State :=
  match s.link.state with
  | .rollCall => s.send (.probe s.link.probePosition (10 * s.link.probePosition))
  | .idle => if s.link.announcing then s.sendAnnouncement else s.send .none
  | .run =>
    if s.link.announcing then s.sendAnnouncement
    else
      match s.link.force with
      | some p => s.send (.run s.groupField (s.runCommands p))
      | none => s.send .none
  | .down => if s.triedDue then s.sendTried else s.send .none

/-- A 20 ms cycle period ends and the next begins: the burst that did not return is judged, the counts and ages rise, a period in
LINK-DOWN counts towards the next tried cycle, and the head sends the burst of its state (R148, R149, R151, R154 to R157). A period at
whose end silence takes the link down was no period in LINK-DOWN and does not count, the model's choice (log 31). The notices of the link
come before that of a write's failure in the same period, the model's choice too (log 39). -/
def State.cyclePeriod (s : State) : State :=
  let down := s.link.state == .down
  let s := s.judgeSilence.endPeriod
  let s := if down then s.withLink { s.link with retry := s.link.retry + 1 } else s
  s.sendBurst

end Sys2Proof.Machine
end

