-- ==== Sys2Proof/Machine/Minute.lean ====
section
/-! DEFINITION. The plant minute (R1, R2): the horn cycle (R145) and the delivery of the event to every receiver, in an order no
rule sets. -/

namespace Sys2Proof.Machine

/-! ### The horn cycle (R145) -/

/-- Whether the horn's phase has run its length in force. -/
def State.hornPhaseDue (s : State) : Bool :=
  s.alarms.horn != .idle && decide (s.alarms.hornLength ≤ s.alarms.hornMinutes)

/-- The end of a horn phase (R145): with Hoff 0 an ON phase stays ON with its length (log 15). -/
def State.hornPhaseEnd (s : State) : State :=
  if s.hornPhaseDue then
    match s.alarms.horn with
    | .on =>
      if s.settings.horn.hoff = 0 then s.withAlarms { s.alarms with hornMinutes := 0 }
      else s.withAlarms { s.alarms with horn := .off, hornMinutes := 0, hornLength := s.settings.horn.hoff }
    | .off => s.hornStart
    | .idle => s
  else s

/-- The horn's plant minute (R145). -/
def State.hornMinute (s : State) : State :=
  if s.alarms.horn = .idle then s
  else (s.withAlarms { s.alarms with hornMinutes := s.alarms.hornMinutes + 1 }).hornPhaseEnd

/-! ### The event (R1) -/

/-- One receiver acts on a plant-minute event for its own state. -/
def State.receive (s : State) : Receiver → State
  | .steep v => s.steepMinute v
  | .box b => s.boxMinute b
  | .kiln k => s.kilnMinute k
  | .water => s.waterMinute
  | .turner => s.turnerMinute
  | .peat => s.peatMinute
  | .sampler => s.samplerMinute
  | .horn => s.hornMinute
  | .transfers => s.transfersMinute
  | .storeRetry => s.retryWrite

/-- Every receiver of the event. -/
def Receiver.all : List Receiver :=
  (List.finRange 6).map .steep ++ (List.finRange 8).map .box ++ (List.finRange 2).map .kiln ++
  [.water, .turner, .peat, .sampler, .horn, .transfers, .storeRetry]

/-- The plant minute count rises by 1 and wraps (R2). -/
def State.countMinute (s : State) : State := s.withClock { s.clock with minutes := s.clock.minutes + 1 }

/-- A plant minute: the count, then the event to each receiver once, in an order no rule sets (R1, R2). -/
def State.plantMinute (s : State) (order : List Receiver) : State :=
  (completeOrder order Receiver.all).foldl State.receive s.countMinute

end Sys2Proof.Machine
end

