-- ==== Sys2Proof/Machine/Operands.lean ====
section
/-! DEFINITION. The operand forms of the requests: places named by their codes and the reasons they are refused for, clamped and
omitted settings with the clamped flag (R164), and the fields of replies with their sizes (12.1, R171). -/

namespace Sys2Proof.Machine

/-! ### Places named by code (12.1) -/

/-- The steep a code names; UNKNOWN-PLACE where it names no place, CONFLICT where it names another kind (R27). -/
def steepNamed (code : Nat) : Except Reason SteepId :=
  match Place.ofCode? code with
  | some (.vessel (.steep v)) => .ok v
  | some (.vessel (.box _)) => .error .conflict
  | some (.vessel (.kiln _)) => .error .conflict
  | some .out => .error .conflict
  | none => .error .unknownPlace

/-- The box a code names (R65). -/
def boxNamed (code : Nat) : Except Reason BoxId :=
  match Place.ofCode? code with
  | some (.vessel (.box b)) => .ok b
  | some (.vessel (.steep _)) => .error .conflict
  | some (.vessel (.kiln _)) => .error .conflict
  | some .out => .error .conflict
  | none => .error .unknownPlace

/-- The kiln a code names (R90). -/
def kilnNamed (code : Nat) : Except Reason KilnId :=
  match Place.ofCode? code with
  | some (.vessel (.kiln k)) => .ok k
  | some (.vessel (.steep _)) => .error .conflict
  | some (.vessel (.box _)) => .error .conflict
  | some .out => .error .conflict
  | none => .error .unknownPlace

/-! ### Answers -/

/-- What a block makes of a request: the state after it and the reply. -/
abbrev Answer := State × Reply

/-- A refused request changes no state (R164). -/
def State.refuse (s : State) (r : Reason) : Answer := (s, .refused r)

/-- The answer of a request that names a steep, a box or a kiln: the place's own reason, or what the block does with it. -/
def State.withPlace {α : Type} (s : State) (named : Except Reason α) (act : α → Answer) : Answer :=
  match named with
  | .ok x => act x
  | .error r => s.refuse r

/-! ### Clamping (4.2, R164) -/

/-- A value clamped to a range. -/
def clampN (lo hi v : Nat) : Nat := max lo (min hi v)

/-- A setting that may be omitted: the clamped value given, or the one that stands. -/
def clampOr (lo hi : Nat) (given : Option Nat) (stands : Nat) : Nat :=
  match given with
  | some v => clampN lo hi v
  | none => stands

/-- Whether a value given was changed by clamping or lowering. -/
def lowered (given : Option Nat) (stored : Nat) : Bool := given.any fun v => decide (v ≠ stored)

/-- A temperature clamped to a range above 0, and whether clamping or lowering changed one given. -/
def clampT (lo hi : Nat) (v : Temp) : Nat := (max (lo : Int) (min (hi : Int) v)).toNat
def clampOrT (lo hi : Nat) (given : Option Temp) (stands : Nat) : Nat :=
  match given with
  | some v => clampT lo hi v
  | none => stands
def loweredT (given : Option Temp) (stored : Nat) : Bool := given.any fun v => decide (v ≠ (stored : Int))

/-! ### Fields of replies (12.1, R171) -/

namespace Fld

/-- A flag byte: 0 clear, 1 set. -/
def flag (x : Bool) : Fld := .b (if x then 1 else 0)

/-- A flag that may be absent, 0xFF then. -/
def optFlag (x : Option Bool) : Fld := .b (x.elim 255 fun x => if x then 1 else 0)

/-- A code that may be absent, 0xFF then. -/
def optB (x : Option Nat) : Fld := .b (x.getD 255)

/-- A 2-byte quantity that may be absent, 0xFFFF then. -/
def optH (x : Option Int) : Fld := .h (x.getD 65535)

/-- A 2-byte count that may be absent. -/
def optN (x : Option Nat) : Fld := .h ((x.getD 65535 : Nat) : Int)

/-- A 4-byte quantity that may be absent, 0xFFFFFFFF then (log 17). -/
def optW (x : Option Nat) : Fld := .w (x.getD 4294967295)

/-- A list, preceded by its count. -/
def list (items : List (List Fld)) : List Fld := .b items.length :: items.flatten

end Fld

/-- The clamped flag of a settings request that has no value to clamp (R164, R170). -/
def unclamped : Fld := Fld.flag false

/-- A plant minute as a number. -/
def minuteN (m : Minute) : Nat := m.toNat

/-- The latest held value of a VALUE reading or a mask, 2 bytes, with its fresh or stale flag: 1 for fresh, the model's choice (log
64). -/
def State.readingH (s : State) (x : Site) (r : Reading) : List Fld := [Fld.optH (s.held? x r), Fld.flag (s.isFresh x r)]

/-- The latest held value of an enumeration, 1 byte, with its fresh or stale flag: 1 for fresh, the model's choice (log 64). -/
def State.readingB (s : State) (x : Site) (r : Reading) : List Fld :=
  [Fld.optB ((s.held? x r).map Int.toNat), Fld.flag (s.isFresh x r)]

end Sys2Proof.Machine
end

