-- ==== Sys2Proof/Machine/PortOps.lean ====
section
/-! DEFINITION. The operations of the Plant Message Port: requests taken and their replies (R163), the loss of power, the start of
the part (R165, R167) and the reset values of every block. -/

namespace Sys2Proof.Machine

/-! ### Requests taken (R163, R169) -/

/-- Whether the port takes frames: the part runs and no RESTART has stopped it (R169). -/
def State.takesFrames (s : State) : Bool := s.running && decide (s.port.restart ≠ .draining)

/-- A frame completed while ANSWERING is discarded and leaves the receiver in HUNT; the count stops at 65,535 (R162, R163). -/
def State.discardFrame (s : State) : State := s.withPort { State.hunted s.port with discarded := countTo16 s.port.discarded }

/-- The reply of a request is formed and sent: the port is ANSWERING, and its receiver is in HUNT, where the completed frame left it and
where it stays while the reply drives the line (R162, R163). -/
def State.answer (s : State) (kind : Byte) (r : Reply) : State :=
  s.withPort { State.hunted s.port with state := .answering, reply := some (kind, r) }

/-- A complete frame arrives whose kind names a request: its owning block decides it (R163). -/
def State.takeRequest (s : State) (kind : Byte) (act : State → Answer) : State :=
  if s.takesFrames then
    match s.port.state with
    | .answering => s.discardFrame
    | .ready => (act s).1.answer kind (act s).2
  else s

/-- The last byte of a reply has been sent: the port is READY, and a RESTART whose reply it was stops the taking of frames
(R163, R169). -/
def State.replySent (s : State) : State :=
  match s.port.state with
  | .answering =>
    s.withPort { s.port with
      state := .ready, reply := none, restart := if s.port.restart = .replying then .draining else s.port.restart }
  | .ready => s

/-- A bad frame is discarded whole (R162). -/
def State.badFrame (s : State) : State :=
  s.withPort { State.hunted s.port with badFrames := countTo16 s.port.badFrames }

/-! ### Starting (R165, R167) -/

/-- The settings a start gives every block (R167). -/
def Eeprom.load (e : Eeprom) (answers : Bool) : Settings := if e.usable answers then e.body else Settings.default

/-- Every block at the values after POWER-ON and RESTART, with the settings read, before PMP's first notice and the automatic roll
call. The two external stores, the lines and the waiting commands stay. -/
def State.blank (s : State) (cause : ResetCause) (answers : Bool) : State :=
  let x := s.eeprom.load answers
  { s with
    settings := x
    clock := { minutes := 0, isSet := false }
    lots := []
    steeps := Vector.replicate 6 Steep.reset
    water := Water.reset x.nextPw x.nextAw
    boxes := Vector.replicate 8 Box.reset
    turner := Turner.reset
    kilns := Vector.replicate 2 Kiln.reset
    peat := Peat.reset
    sampler := Sampler.reset
    journal := Journal.reset
    alarms := Alarms.reset
    link := Link.reset
    port := Port.reset cause (!(s.eeprom.usable answers)) }

/-- The part starts: every block at its reset values, the notice that names PORT, and the automatic roll call where its flag is
set (R160, R165, R167). -/
def State.powerUp (s : State) (cause : ResetCause) (answers : Bool) : State :=
  let s := (s.blank cause answers).notify (.stateChange .port 0 cause.code)
  if s.settings.autoRollCall then s.beginRollCall true else s

/-- The two external stores as an abrupt loss leaves them (R130, R133, R135, R168). -/
def State.afterLoss (s : State) (left : LossLeft) : State :=
  (s.withStore (s.storeAfterLoss left)).withEeprom (s.eepromAfter left.image)

/-- A format under way at a RESTART has erased an open number of places (log 16). -/
def State.leaveFormat (s : State) : State :=
  if s.journal.state = .formatting then
    (s.withStore (Store.eraseUpTo s.store (Config.openErased s.freeTaken))).withFreeTaken (s.freeTaken + 1)
  else s

end Sys2Proof.Machine
end

