-- ==== Sys2Proof/Machine/Lots.lean ====
section
/-! DEFINITION. The requests of Lots, Places and Transfers (R2, R7 to R12, R18 to R20, R22): what LTB and PCK answer, and their
meanings. -/

namespace Sys2Proof.Machine

/-! ### SET-CLOCK (R2) -/

def reqSetClock (count : Minute) (s : State) : Answer :=
  (s.withClock { minutes := count, isSet := true }, .done [.w s.clock.minutes.toNat])

/-! ### Shared by LOT-IN, RESTORE-LOT and TRANSFER -/

/-- Whether a vessel is in state EMPTY (R5). -/
def State.stateEmpty (s : State) : Vessel → Bool
  | .steep v => (s.steep v).state == .empty
  | .box b => (s.box b).state == .empty
  | .kiln k => (s.kiln k).phase == .empty

/-- Whether a vessel is free: in state EMPTY and unoccupied (R5). -/
def State.isFree (s : State) (p : Vessel) : Bool := s.stateEmpty p && (s.occupant? p).isNone

/-- The declared Wcap, steep target, peat target and mass in as stored (R8). -/
def storedWcap (given : Option Nat) : Nat := clampOr 4000 5200 given 4800
def storedTarget (given : Option Nat) (wcap : Nat) : Nat := min (clampOr 3800 4800 given 4400) wcap
def storedPeat (given : Option Nat) : Nat := clampOr 0 1440 given 0
def storedMass (given : Nat) : Nat := clampN 0 60000 given

/-! ### LOT-IN (R7, R8) -/

/-- The checks of LOT-IN, in the order of R7's table. -/
def checkLotIn (s : State) (lot place : Nat) : Except Reason SteepId :=
  if lot < 1 ∨ 65535 < lot then .error .range
  else
    match steepNamed place with
    | .error r => .error r
    | .ok v =>
      if !(s.isFree (.steep v)) then .error .state
      else if Config.lotCapacity ≤ s.lots.length then .error .full
      else if (s.lot? lot).isSome then .error .conflict
      else .ok v

/-- The record LOT-IN makes (R8). -/
def newLot (lot : Nat) (v : SteepId) (massIn w : Nat) (wcap target peat : Option Nat) : Lot :=
  { number := lot, place := .steep v, massIn := storedMass massIn, w := clampN 0 (storedWcap wcap) w
    wcap := storedWcap wcap, target := storedTarget target (storedWcap wcap), minSteep := 0, minBox := 0, turnCount := 0
    lastTurn := none, sinceTurn := none, aborted := 0, spray := 0, wload := none, d0 := none, q := none, breakMinute := none
    forced := false, peatTarget := storedPeat peat, peatGiven := 0, shortfall := none, steepOut := none, kilnOut := none
    restored := false, transfer := none }

/-- What an accepted LOT-IN does: the record, the LOT-IN entry, the steep CHARGED (R8). -/
def State.declareLot (s : State) (v : SteepId) (l : Lot) : State :=
  ((s.withLots (insertLot l s.lots)).numberEntry false { Entry.blank .lotIn l.number with mass := l.massIn }).steepEnter v .charged

def reqLotIn (lot place massIn w : Nat) (wcap target peat : Option Nat) (s : State) : Answer :=
  match checkLotIn s lot place with
  | .error r => s.refuse r
  | .ok v =>
    if s.roomOffered < 1 then s.journalFull.refuse .full
    else
      let l := newLot lot v massIn w wcap target peat
      (s.declareLot v l,
       .done [.flag (decide (l.massIn ≠ massIn) || decide (l.w ≠ w) || lowered wcap l.wcap || lowered target l.target ||
                lowered peat l.peatTarget),
              .w s.journal.next, .h l.massIn, .h l.w, .h l.wcap, .h l.target, .h l.peatTarget])

/-! ### RESTORE-LOT (R9, R10) -/

/-- A state a lot may be restored into (R9). -/
inductive RestoreState where
  | steepDone (v : SteepId)
  | box (b : BoxId) (x : BoxState)
  | kiln (k : KilnId) (x : KilnPhase)
deriving DecidableEq, Repr

/-- The state a code names for a vessel, where R9 allows it. -/
def restoreState? (p : Vessel) (code : Nat) : Option RestoreState :=
  match p with
  | .steep v => if code = SteepState.done.code then some (.steepDone v) else none
  | .box b =>
    if code = BoxState.tending.code then some (.box b .tending)
    else if code = BoxState.ready.code then some (.box b .ready)
    else none
  | .kiln k =>
    if code = KilnPhase.freeDry.code then some (.kiln k .freeDry)
    else if code = KilnPhase.curingRamp.code then some (.kiln k .curingRamp)
    else if code = KilnPhase.curingHold.code then some (.kiln k .curingHold)
    else if code = KilnPhase.cooling.code then some (.kiln k .cooling)
    else if code = KilnPhase.ready.code then some (.kiln k .ready)
    else none

/-- The checks of RESTORE-LOT, in the order of R9's table. -/
def checkRestore (s : State) (lot place state : Nat) : Except Reason (Vessel × RestoreState) :=
  if lot < 1 ∨ 65535 < lot then .error .range
  else
    match Place.ofCode? place with
    | none => .error .unknownPlace
    | some .out => .error .conflict
    | some (.vessel p) =>
      match restoreState? p state with
      | none => .error .range
      | some x =>
        if !(s.isFree p) then .error .state
        else if Config.lotCapacity ≤ s.lots.length then .error .full
        else if (s.lot? lot).isSome then .error .conflict
        else .ok (p, x)

/-- The record of the fields given, clamped, before the steps that depend on the place (R10 steps 1 to 3); the last drying ratio and
the shortfall to R3's ranges as well (R164; log 53). A forced flag omitted beside a break minute is stored clear, a natural break: R10
does not say which, and the model chooses (log 53). -/
def restoredBase (f : RestoreFields) (p : Vessel) : Lot :=
  let wcap := clampN 4000 5200 f.wcap
  let peatTarget := clampN 0 1440 f.peatTarget
  { number := f.lot, place := p, massIn := storedMass f.massIn, w := clampN 0 wcap f.w, wcap := wcap
    target := min (clampN 3800 4800 f.target) wcap, minSteep := f.minSteep, minBox := f.minBox, turnCount := f.turnCount
    lastTurn := f.lastTurn, sinceTurn := f.sinceTurn, aborted := f.aborted, spray := f.spray, wload := f.wload, d0 := f.d0
    q := f.q.map (clampN 0 1024), breakMinute := f.breakMinute, forced := f.forced.getD false, peatTarget := peatTarget
    peatGiven := clampN 0 peatTarget f.peatGiven, shortfall := f.shortfall.map (clampN 0 1440), steepOut := f.steepOut, kilnOut := f.kilnOut
    restored := true, transfer := none }

/-- The kiln fields of a record discarded (R10 step 7). -/
def Lot.withoutKiln (l : Lot) : Lot :=
  { l with wload := none, d0 := none, q := none, breakMinute := none, forced := false, shortfall := none }

/-- The record of a lot restored into a kiln, up to the break fields (R10 step 4 and Q). -/
def Lot.loaded (l : Lot) : Lot :=
  let wload := l.wload.getD l.w
  { l with wload := some wload, w := min l.w wload, q := some (l.q.getD 1024) }

/-- The record of a restored lot, by its place and state (R10 steps 4 to 8). -/
def Lot.restoredInto (l : Lot) (now : Minute) : RestoreState → Lot
  | .steepDone _ => l.withoutKiln
  | .box _ _ => { l.withoutKiln with lastTurn := some (l.lastTurn.getD now), sinceTurn := some (l.sinceTurn.getD 0) }
  | .kiln _ .freeDry => { l.loaded with breakMinute := none, forced := false, shortfall := none }
  | .kiln _ _ =>
    { l.loaded with
      breakMinute := some (l.breakMinute.getD now), forced := l.forced || l.breakMinute.isNone
      shortfall := some (l.shortfall.getD (l.peatTarget - l.peatGiven)) }

/-- The vessel block is told that its place is occupied, in the state named (R10). -/
def State.restoreVessel (s : State) : RestoreState → State
  | .steepDone v => s.steepEnter v .done
  | .box b x => s.boxTend b x
  | .kiln k x => s.kilnRestore k x

/-- Whether a value given stands in a record otherwise than it was given; a discarded one does not stand. -/
def loweredIn (given stored : Option Nat) : Bool := stored.any fun x => lowered given x

/-- Whether clamping or lowering changed a value given to RESTORE-LOT (R164). -/
def restoreClamped (f : RestoreFields) (l : Lot) : Bool :=
  decide (l.massIn ≠ f.massIn) || decide (l.w ≠ f.w) || decide (l.wcap ≠ f.wcap) || decide (l.target ≠ f.target) ||
    decide (l.peatTarget ≠ f.peatTarget) || decide (l.peatGiven ≠ f.peatGiven) || loweredIn f.q l.q || loweredIn f.shortfall l.shortfall

/-- The stage of a transfer, PENDING 1 and FLOWING 2 (12.3). -/
def Transfer.stageCode (t : Transfer) : Nat := if t.flowing then 2 else 1

/-- The transfer part as LOT-QUERY carries it, absent where the lot is not in transfer (R22). -/
def transferFields (t : Option Transfer) : List Fld :=
  [.optB (t.map (·.stageCode)), .optB (t.map (·.dest.code)), .optN (t.map (·.minutes)), .optN (t.map (·.reserved))]

/-- The forced flag that goes with a break minute: absent before the break (R3). -/
def Lot.forced? (l : Lot) : Option Bool := l.breakMinute.map fun _ => l.forced

/-- A lot record as LOT-QUERY carries it, in the order of R3. -/
def lotFields (l : Lot) : List Fld :=
  [.h l.number, .b l.place.code, .b l.stage.code, .h l.massIn, .h l.w, .h l.wcap, .h l.target, .w l.minSteep, .w l.minBox,
   .h l.turnCount, .optW (l.lastTurn.map minuteN), .optW l.sinceTurn, .h l.aborted, .h l.spray, .optN l.wload, .optH l.d0,
   .optN l.q, .optW (l.breakMinute.map minuteN), .optFlag l.forced?, .h l.peatTarget, .h l.peatGiven, .optN l.shortfall,
   .optW l.steepOut, .optW l.kilnOut, .flag l.restored]

/-- A stage code that names no stage is MALFORMED before the checks of R9 (R163). The reply holds the stored values and then the clamped
flag, in R10's order: RESTORE-LOT is no settings request (R164, R171). -/
def reqRestoreLot (f : RestoreFields) (s : State) : Answer :=
  if (Stage.ofCode? f.stage).isNone then s.refuse .malformed
  else match checkRestore s f.lot f.place f.state with
  | .error r => s.refuse r
  | .ok (p, x) =>
    let l := (restoredBase f p).restoredInto s.now x
    ((s.withLots (insertLot l s.lots)).restoreVessel x, .done (lotFields l ++ [.flag (restoreClamped f l)]))

/-! ### TRANSFER (R11, R12) -/

/-- Whether source and destination form an allowed path (R11). -/
def allowedPath : Vessel → Place → Bool
  | .steep _, .vessel (.box _) => true
  | .box _, .vessel (.kiln _) => true
  | .kiln _, .out => true
  | .steep _, .vessel (.steep _) => false
  | .steep _, .vessel (.kiln _) => false
  | .steep _, .out => false
  | .box _, .vessel (.steep _) => false
  | .box _, .vessel (.box _) => false
  | .box _, .out => false
  | .kiln _, .vessel _ => false

/-- Whether a source is in its finished state (R11). -/
def State.finished (s : State) : Vessel → Bool
  | .steep v => (s.steep v).state == .done
  | .box b => (s.box b).state == .ready
  | .kiln k => (s.kiln k).phase == .ready

/-- Whether the turner is engaged on a vessel (R79). -/
def State.turnerOn (s : State) : Vessel → Bool
  | .box b => s.engagedOn b
  | .steep _ => false
  | .kiln _ => false

/-- Whether a place can take a transfer (R11). -/
def State.destFree (s : State) : Place → Bool
  | .out => true
  | .vessel p => s.isFree p

/-- The entries a transfer reserves, by its source (R12). -/
def reservations : Vessel → Nat
  | .steep _ => 2
  | .box _ => 0
  | .kiln _ => 3

/-- The checks of TRANSFER but for the journal's room, in the order of R11's table. -/
def checkTransfer (s : State) (lot dest : Nat) (force : Bool) (outMass : Option Nat) : Except Reason (Lot × Place) :=
  match s.lot? lot with
  | none => .error .unknownLot
  | some l =>
    match Place.ofCode? dest with
    | none => .error .unknownPlace
    | some d =>
      if l.transfer.isSome then .error .state
      else if !(allowedPath l.place d) then .error .conflict
      else if outMass.isSome ≠ decide (d = .out) then .error .malformed
      else if !force && !(s.finished l.place) then .error .state
      else if s.turnerOn l.place then .error .busy
      else if !(s.destFree d) then .error .state
      else .ok (l, d)

/-- Any turn request for a source that is a box is removed (R12). -/
def State.removeTurnOf (s : State) : Vessel → State
  | .box b => s.turnRemove b
  | .steep _ => s
  | .kiln _ => s

/-- The transfer part, the reservations and the turn request of an accepted TRANSFER (R12). -/
def State.acceptTransfer (s : State) (l : Lot) (d : Place) (outMass : Option Nat) : State :=
  let k := reservations l.place
  let t : Transfer :=
    { dest := d, flowing := false, outMass := outMass.map (clampN 0 60000), minutes := 0, timeout := none, reserved := k
      resolved := false, lateRaised := false }
  let s := s.modLot l.number fun l => { l with transfer := some t }
  let s := if 0 < k then s.reserve k else s
  s.removeTurnOf l.place

/-- The stage an accepted transfer enters, and the state after it (R12). -/
def State.startTransfer (s : State) (l : Lot) : State × Nat :=
  match samplePoint? l.place with
  | none => (s.startFlowing l.number, 2)
  | some point =>
    match s.settings.samplerMode with
    | .hold => (s.joinPending { lot := l.number, point := point }, 1)
    | .pass => ((s.startFlowing l.number).passDraw { lot := l.number, point := point }, 2)

def reqTransfer (lot dest : Nat) (force : Bool) (outMass : Option Nat) (s : State) : Answer :=
  match checkTransfer s lot dest force outMass with
  | .error r => s.refuse r
  | .ok (l, d) =>
    let k := reservations l.place
    if s.roomOffered < k then s.journalFull.refuse .full
    else
      let r := (s.acceptTransfer l d outMass).startTransfer l
      (r.1, .done [.b r.2, .b k])

/-! ### TRANSFER-ABORT (R19, R20) -/

/-- R19 has the reply to the abort of a PENDING transfer state that the lot remains at its source, and names no field: the model sends the
source's place code in 1 byte, as R20's reply does, its choice (log 69). -/
def reqTransferAbort (lot : Nat) (s : State) : Answer :=
  match s.lot? lot with
  | none => s.refuse .unknownLot
  | some l =>
    match l.transfer with
    | none => s.refuse .state
    | some t =>
      if t.flowing then ((s.abortFlowing l).1, .done [.b (s.abortFlowing l).2.code])
      else (s.abortPending l t, .done [.b l.place.code])

/-! ### TRANSFER-SETTINGS (R18) -/

def reqTransferSettings (timeout : Nat) (s : State) : Answer :=
  let x := clampN 10 480 timeout
  (s.withSettings { s.settings with transferTimeout := x }, .done [.flag (decide (x ≠ timeout)), .h x])

/-! ### LOT-QUERY and LOT-LIST (R22) -/

/-- The record a place answers with: that of the lot that occupies it, or an empty record. -/
def State.placeRecord (s : State) : Place → List Fld
  | .out => []
  | .vessel p =>
    match s.occupant? p with
    | some l => lotFields l ++ transferFields l.transfer
    | none => []

def reqLotQuery (what : LotOrPlace) (s : State) : Answer :=
  match what with
  | .lot n =>
    match s.lot? n with
    | some l => (s, .done (lotFields l ++ transferFields l.transfer))
    | none => s.refuse .unknownLot
  | .place code =>
    match Place.ofCode? code with
    | some p => (s, .done (s.placeRecord p))
    | none => s.refuse .unknownPlace

/-- A lot as LOT-LIST carries it; its transfer stage is absent where it is not in transfer (R22). -/
def lotLine (l : Lot) : List Fld := [.h l.number, .b l.place.code, .optB (l.transfer.map (·.stageCode))]

def reqLotList (s : State) : Answer := (s, .done (Fld.list (s.lots.map lotLine)))

/-! ### The meanings -/

/-- SET-CLOCK (R2). -/
def execSetClock (count : Minute) (s : State) : Host.Outcome State Fault Refusal :=
  .next (s.takeRequest 0x10#8 (reqSetClock count))

/-- LOT-IN (R7, R8). -/
def execLotIn (lot place massIn w : Nat) (wcap target peat : Option Nat) (s : State) : Host.Outcome State Fault Refusal :=
  .next (s.takeRequest 0x11#8 (reqLotIn lot place massIn w wcap target peat))

/-- RESTORE-LOT (R9, R10). -/
def execRestoreLot (fields : RestoreFields) (s : State) : Host.Outcome State Fault Refusal :=
  .next (s.takeRequest 0x12#8 (reqRestoreLot fields))

/-- TRANSFER (R11, R12). -/
def execTransfer (lot dest : Nat) (force : Bool) (outMass : Option Nat) (s : State) : Host.Outcome State Fault Refusal :=
  .next (s.takeRequest 0x13#8 (reqTransfer lot dest force outMass))

/-- TRANSFER-ABORT (R19, R20). -/
def execTransferAbort (lot : Nat) (s : State) : Host.Outcome State Fault Refusal :=
  .next (s.takeRequest 0x14#8 (reqTransferAbort lot))

/-- TRANSFER-SETTINGS (R18). -/
def execTransferSettings (timeout : Nat) (s : State) : Host.Outcome State Fault Refusal :=
  .next (s.takeRequest 0x15#8 (reqTransferSettings timeout))

/-- LOT-QUERY (R22). -/
def execLotQuery (what : LotOrPlace) (s : State) : Host.Outcome State Fault Refusal :=
  .next (s.takeRequest 0x16#8 (reqLotQuery what))

/-- LOT-LIST (R22). -/
def execLotList (s : State) : Host.Outcome State Fault Refusal :=
  .next (s.takeRequest 0x17#8 reqLotList)

end Sys2Proof.Machine
end

