-- ==== Sys2Proof/Machine/Steeping.lean ====
section
/-! DEFINITION. The requests of Steeping and Water Rounds (R27 to R29, R39, R40, R42, R50, R51). -/

namespace Sys2Proof.Machine

/-! ### STEEP-PROGRAM (R27) -/

/-- The step a step's fields name, clamped (R26, R27). The codes of the step kinds, which 12.1 does not give, are IMMERSE 1 and
REST 2: the model's choice (log 52). -/
def storedStep? (f : StepFields) : Option SteepStep :=
  if f.kind = 1 then some (.immerse (clampN 10 1440 f.minutes) (clampN 100 65000 f.litres) f.flag)
  else if f.kind = 2 then some (.rest (clampN 10 1440 f.minutes) f.flag)
  else none

/-- Whether clamping changed a step's fields; a REST step has no litres. -/
def stepClamped (f : StepFields) : Bool :=
  decide (clampN 10 1440 f.minutes ≠ f.minutes) || (decide (f.kind = 1) && decide (clampN 100 65000 f.litres ≠ f.litres))

/-- The steps of a program, where every one has a kind (R27). -/
def storedSteps? : List StepFields → Option (List SteepStep)
  | [] => some []
  | f :: rest =>
    match storedStep? f, storedSteps? rest with
    | some x, some xs => some (x :: xs)
    | _, _ => none

/-- A stored step as a reply carries it: its kind, minutes, litres and flag. A REST step has no litres and carries the omitted value
0xFFFF, the model's choice (log 17). -/
def stepLine : SteepStep → List Fld
  | .immerse m l a => [.b 1, .h m, .h l, .flag a]
  | .rest m x => [.b 2, .h m, .optN none, .flag x]

/-- A program as a reply carries it. -/
def programFields (p : SteepProgram) : List Fld :=
  Fld.list (p.steps.map stepLine) ++ [.flag p.earlyFinish, .flag p.endWithRest]

/-- A steep's program replaced whole. -/
def State.storeProgram (s : State) (v : SteepId) (p : SteepProgram) : State :=
  s.withSettings { s.settings with steepPrograms := s.settings.steepPrograms.set v p }

/-- Whether a steep's program may be replaced in a state (R27). -/
def programState : SteepState → Bool
  | .empty => true | .charged => true | .done => true
  | .filling => false | .immersed => false | .draining => false | .airRest => false | .transferOut => false | .halted => false

def reqSteepProgram (place : Nat) (steps : List StepFields) (earlyFinish endWithRest : Bool) (s : State) : Answer :=
  s.withPlace (steepNamed place) fun v =>
    if steps.length < 1 ∨ 8 < steps.length then s.refuse .range
    else
      match storedSteps? steps with
      | none => s.refuse .malformed
      | some xs =>
        if programState (s.steep v).state then
          let p : SteepProgram := { steps := xs, earlyFinish, endWithRest }
          (s.storeProgram v p, .done (.flag (steps.any stepClamped) :: programFields p))
        else s.refuse .conflict

/-! ### STEEP-SETTINGS (R28) -/

def reqSteepSettings (place timeout : Nat) (s : State) : Answer :=
  s.withPlace (steepNamed place) fun v =>
    let x := clampN 10 240 timeout
    (s.withSettings { s.settings with fillTimeouts := s.settings.fillTimeouts.set v x },
     .done [.flag (decide (x ≠ timeout)), .h x])

/-! ### STEEP-START (R29) -/

/-- The answer that gives the state a steep has entered: where R38's test halts at entry the fill that step 1 starts, the reply
names HALTED, the state that stands when it is formed, and not the FILLING it passed through (the model's choice, log 54). -/
def State.steepEntered (s : State) (v : SteepId) : Answer := (s, .done [.b (s.steep v).state.code])

def reqSteepStart (place : Nat) (s : State) : Answer :=
  s.withPlace (steepNamed place) fun v =>
    if (s.steep v).state = .charged then (s.startStep v 1).steepEntered v else s.refuse .state

/-! ### STEEP-HALT (R39) -/

/-- The halt of a vessel in a running state; a filling one is stopped with its remainder (R39). -/
def State.haltSteep (s : State) (v : SteepId) : State :=
  if (s.steep v).state = .filling then s.fillStop v
  else (s.withSteep v { s.steep v with held := some (s.steep v).state }).steepEnter v .halted

/-- Whether a steep runs a step (R39). -/
def steepRuns : SteepState → Bool
  | .filling => true | .immersed => true | .draining => true | .airRest => true
  | .empty => false | .charged => false | .done => false | .transferOut => false | .halted => false

def reqSteepHalt (place : Nat) (s : State) : Answer :=
  s.withPlace (steepNamed place) fun v =>
    if steepRuns (s.steep v).state then
      let t := s.haltSteep v
      (t, .done [.optB ((t.steep v).held.map SteepState.code), .optN (t.steep v).remainder])
    else s.refuse .state

/-! ### STEEP-RESUME (R40) -/

/-- The return to FILLING with a remainder of 0: no request is posted and the valve stays CLOSED (R40). Where the level already stands
fresh at COVERED, both conditions of R32 hold, and R40 says that the vessel waits for a fresh COVERED reading: the model stays in FILLING
until the next level reading arrives, its choice (log 63). -/
def State.resumeFilled (s : State) (v : SteepId) : State :=
  (s.withSteep v { s.steep v with
    fillStage := .running, delivered := true, fillMinutes := 0, timeoutInForce := s.settings.fillTimeouts[v] }).steepEnter v
      .filling

/-- The return to the held state (R40). -/
def State.resumeSteep (s : State) (v : SteepId) (held : SteepState) : State :=
  let owed := (s.steep v).remainder.getD 0
  let s := (s.ended (.vessel (.steep v)) .fillLate).withSteep v { s.steep v with held := none, remainder := none }
  if held = .filling then (if 0 < owed then s.startFill v owed else s.resumeFilled v)
  else s.steepEnter v held

def reqSteepResume (place : Nat) (s : State) : Answer :=
  s.withPlace (steepNamed place) fun v =>
    match (s.steep v).state, (s.steep v).held with
    | .halted, some held =>
      if held = .filling ∧ s.steepStale v = true then s.refuse .state else (s.resumeSteep v held).steepEntered v
    | _, _ => s.refuse .state

/-! ### STEEP-QUERY (R42) -/

/-- Whether a vessel runs or holds a program. -/
def State.programRuns (s : State) (v : SteepId) : Bool := (s.steep v).stepNumber.isSome

/-- What STEEP-QUERY reports of a steep (R42). -/
def State.steepReport (s : State) (v : SteepId) : List Fld :=
  let x := s.steep v
  [.b x.state.code, .optB (x.held.map SteepState.code), .optN x.stepNumber,
   .optN (if s.programRuns v then some x.stepMinutes else none), .flag x.skip, .b x.fillStage.code, .h x.fillLitres,
   .h (if x.fillStage = .running then s.litresDelivered v else 0), .h x.fillMinutes, .optN x.remainder,
   .h (s.settings.fillTimeouts[v])] ++
  programFields (s.steepProgram v) ++
  [.b (s.commandCode (steepSite v) .fillValve), .b (s.commandCode (steepSite v) .outlet),
   .b (s.commandCode (steepSite v) .air)] ++
  s.readingB (steepSite v) .level ++ s.readingH (steepSite v) .tw ++ s.readingH (steepSite v) .delivered ++
  [.optN ((s.lotAt? (.steep v)).map (·.number))]

def reqSteepQuery (place : Nat) (s : State) : Answer :=
  s.withPlace (steepNamed place) fun v => (s, .done (s.steepReport v))

/-! ### WATER-SETTINGS and WATER-QUERY (R50, R51) -/

def reqWaterSettings (allowance period : Option Nat) (s : State) : Answer :=
  let aw := clampOr 1000 200000 allowance s.settings.nextAw
  let pw := clampOr 2 60 period s.settings.nextPw
  (s.withSettings { s.settings with nextAw := aw, nextPw := pw },
   .done [.flag (lowered allowance aw || lowered period pw), .w aw, .h pw, .w s.water.allowance, .h s.water.period])

/-- The minutes to the next round start (R51). -/
def State.roundMinutesLeft (s : State) : Nat := if s.water.started then s.water.period - s.water.counted else 1

/-- An entry of the fill queue as WATER-QUERY carries it. -/
def fillLine (r : FillRequest) : List Fld := [.b (Vessel.steep r.steep).code, .h r.litres, .w (minuteN r.minute)]

def reqWaterQuery (s : State) : Answer :=
  (s, .done ([.flag s.water.started, .w (minuteN s.water.startMinute), .h s.water.period, .w s.water.allowance,
     .w s.water.booked, .h s.water.grants, .flag s.water.closed, .h s.roundMinutesLeft, .h s.settings.nextPw,
     .w s.settings.nextAw] ++ Fld.list (s.water.queue.map fillLine)))

/-! ### The meanings -/

/-- STEEP-PROGRAM (R27). -/
def execSteepProgram (place : Nat) (steps : List StepFields) (earlyFinish endWithRest : Bool) (s : State) :
    Host.Outcome State Fault Refusal :=
  .next (s.takeRequest 0x18#8 (reqSteepProgram place steps earlyFinish endWithRest))

/-- STEEP-SETTINGS (R28). -/
def execSteepSettings (place timeout : Nat) (s : State) : Host.Outcome State Fault Refusal :=
  .next (s.takeRequest 0x19#8 (reqSteepSettings place timeout))

/-- STEEP-START (R29). -/
def execSteepStart (place : Nat) (s : State) : Host.Outcome State Fault Refusal :=
  .next (s.takeRequest 0x1A#8 (reqSteepStart place))

/-- STEEP-HALT (R39). -/
def execSteepHalt (place : Nat) (s : State) : Host.Outcome State Fault Refusal :=
  .next (s.takeRequest 0x1B#8 (reqSteepHalt place))

/-- STEEP-RESUME (R40). -/
def execSteepResume (place : Nat) (s : State) : Host.Outcome State Fault Refusal :=
  .next (s.takeRequest 0x1C#8 (reqSteepResume place))

/-- STEEP-QUERY (R42). -/
def execSteepQuery (place : Nat) (s : State) : Host.Outcome State Fault Refusal :=
  .next (s.takeRequest 0x1D#8 (reqSteepQuery place))

/-- WATER-SETTINGS (R50). -/
def execWaterSettings (allowance period : Option Nat) (s : State) : Host.Outcome State Fault Refusal :=
  .next (s.takeRequest 0x20#8 (reqWaterSettings allowance period))

/-- WATER-QUERY (R51). -/
def execWaterQuery (s : State) : Host.Outcome State Fault Refusal :=
  .next (s.takeRequest 0x21#8 reqWaterQuery)

end Sys2Proof.Machine
end

