-- ==== Sys2Proof/Machine/Beds.lean ====
section
/-! DEFINITION. The requests of Germination Beds and The Turner (R65 to R69, R74, R78, R82, R83). -/

namespace Sys2Proof.Machine

/-! ### ZONE-MASK (R65) -/

/-- The mask that excludes the zones named, 1..12. -/
def maskOf (zones : List Nat) : Vector Bool 12 := Vector.ofFn fun z => zones.contains (z.val + 1)

/-- The zones set in a mask, in ascending order, as a reply's list. -/
def zoneFields (mask : Vector Bool 12) : List Fld :=
  Fld.list (((List.finRange 12).filter fun z => mask[z]).map fun z => [.h (z.val + 1 : Nat)])

/-- A list of more than 12 zones is not the list of 0 to 12 that the rule names, and PMP refuses it first (R163). -/
def reqZoneMask (place : Nat) (zones : List Nat) (s : State) : Answer :=
  if 12 < zones.length then s.refuse .malformed
  else s.withPlace (boxNamed place) fun b =>
    if zones.any fun z => decide (z < 1 ∨ 12 < z) then s.refuse .range
    else
      (s.withSettings { s.settings with zoneMasks := s.settings.zoneMasks.set b (maskOf zones) },
       .done (unclamped :: zoneFields (maskOf zones)))

/-! ### BOX-SETTINGS (R66) -/

/-- The settings that would stand: each given one clamped, each omitted one kept (R66). -/
def formedBox (f : BoxFields) (x : BoxSettings) : BoxSettings :=
  { target := clampOr 1440 10080 f.target x.target
    minInterval := clampOr 30 720 f.minInterval x.minInterval
    maxInterval := clampOr 120 1440 f.maxInterval x.maxInterval
    spreadThreshold := clampOr 5 100 f.spreadThreshold x.spreadThreshold
    highMean := clampOrT 120 260 f.highMean x.highMean
    tset := clampOrT 100 220 f.tset x.tset
    kf := clampOr 0 50 f.kf x.kf
    fbase := clampOr 0 100 f.fbase x.fbase
    fmin := clampOr 0 100 f.fmin x.fmin
    fmax := clampOr 0 100 f.fmax x.fmax }

/-- Whether clamping changed a box setting given. -/
def boxClamped (f : BoxFields) (x : BoxSettings) : Bool :=
  lowered f.target x.target || lowered f.minInterval x.minInterval || lowered f.maxInterval x.maxInterval ||
    lowered f.spreadThreshold x.spreadThreshold || loweredT f.highMean x.highMean || loweredT f.tset x.tset ||
    lowered f.kf x.kf || lowered f.fbase x.fbase || lowered f.fmin x.fmin || lowered f.fmax x.fmax

/-- A box's settings as a reply carries them. -/
def boxSettingFields (x : BoxSettings) : List Fld :=
  [.h x.target, .h x.minInterval, .h x.maxInterval, .h x.spreadThreshold, .h x.highMean, .h x.tset, .h x.kf, .h x.fbase,
   .h x.fmin, .h x.fmax]

def reqBoxSettings (place : Nat) (f : BoxFields) (s : State) : Answer :=
  s.withPlace (boxNamed place) fun b =>
    let x := formedBox f (s.boxSettings b)
    if x.fmax < x.fmin then s.refuse .range
    else
      (s.withSettings { s.settings with boxes := s.settings.boxes.set b x },
       .done (.flag (boxClamped f x) :: boxSettingFields x))

/-! ### BOX-HALT and BOX-RESUME (R67, R68) -/

/-- The halt of a box at a fan demand (R67). -/
def State.haltBox (s : State) (b : BoxId) (demand : Nat) : State :=
  let s := s.withBox b { s.box b with held := some (s.box b).state, need := none, fan := demand }
  (s.boxEnter b .halted).turnRemove b

def reqBoxHalt (place : Nat) (demand : Option Nat) (s : State) : Answer :=
  s.withPlace (boxNamed place) fun b =>
    if (s.box b).state = .tending ∨ (s.box b).state = .ready then
      if (s.box b).engaged then s.refuse .busy
      else
        let x := clampOr 0 100 demand (s.box b).fan
        (s.haltBox b x, .done [.b (s.box b).state.code, .h x])
    else s.refuse .state

/-- The state a resumed box enters (R68). -/
def State.resumeState (s : State) (b : BoxId) : BoxState :=
  if (s.box b).held = some .ready then .ready else s.boxStateByMinutes b

def reqBoxResume (place : Nat) (s : State) : Answer :=
  s.withPlace (boxNamed place) fun b =>
    if (s.box b).state = .halted then
      let x := s.resumeState b
      ((s.withBox b { s.box b with held := none }).boxEnter b x, .done [.b x.code])
    else s.refuse .state

/-! ### BOX-QUERY (R69) -/

/-- A zone as BOX-QUERY carries it. -/
def State.zoneLine (s : State) (b : BoxId) (z : ZoneId) : List Fld :=
  let x := (s.box b).zones[z]
  [.optH x.value, .h x.age, .flag x.isFresh, .flag (s.settings.zoneMasks[b])[z]]

/-- What BOX-QUERY reports of a box (R69). The 12 zones are a fixed set and go without a count: the model's choice (log 62). -/
def State.boxReport (s : State) (b : BoxId) : List Fld :=
  let x := s.box b
  [.b x.state.code, .optB (x.held.map BoxState.code), .optN ((s.occupant? (.box b)).map (·.number)), .flag x.blind] ++
  zoneFields x.usable ++
  [.optH x.mean, .optH x.spread, .optB (x.need.map (·.reason.code)), .optH (x.need.map (·.urgency)), .flag x.engaged,
   .flag (s.queuedTurn? b).isSome, .optB ((s.queuedTurn? b).map (·.reason.code)), .h x.fan, .b x.gate.code] ++
  (List.finRange 12).flatMap (s.zoneLine b) ++
  s.readingH (boxSite b) .airOn ++ s.readingB (boxSite b) .boxBed ++ zoneFields (s.settings.zoneMasks[b]) ++
  boxSettingFields (s.boxSettings b)

def reqBoxQuery (place : Nat) (s : State) : Answer :=
  s.withPlace (boxNamed place) fun b => (s, .done (s.boxReport b))

/-! ### TURN-NOW (R74) -/

/-- What an accepted TURN-NOW does to the queue, before the head is taken (R74). -/
def State.hostTurn (s : State) (b : BoxId) : State :=
  match s.queuedTurn? b with
  | none => s.putTurn { box := b, urgency := 2000, minute := s.now, reason := .host }
  | some r => if r.reason = .host then s else s.putTurn { r with urgency := 2000, reason := .host }

/-- A box's place in the queue, from 1 at the head; 0 where it has been taken (R74). -/
def State.turnPlace (s : State) (b : BoxId) : Nat :=
  match s.turner.queue.findIdx? (·.box == b) with
  | some i => i + 1
  | none => 0

def reqTurnNow (place : Nat) (s : State) : Answer :=
  s.withPlace (boxNamed place) fun b =>
    if (s.box b).state = .tending then
      if s.engagedOn b then s.refuse .busy
      else
        let t := (s.hostTurn b).takeHeadTest
        (t, .done [.h (t.turnPlace b)])
    else s.refuse .state

/-! ### TURN-CANCEL (R78) -/

/-- The reply says which case applied: 1 a travel, 2 a pass, 3 a waiting request. The codes are the model's choice (log 52). -/
def reqTurnCancel (place : Nat) (s : State) : Answer :=
  s.withPlace (boxNamed place) fun b =>
    if s.engagedOn b then
      (s.cancelOperation, .done [.b (if s.turner.state = .travelling then 1 else 2)])
    else if (s.queuedTurn? b).isSome then (s.turnRemove b, .done [.b 3])
    else s.refuse .state

/-! ### TURNER-SETTINGS (R82) -/

/-- The turner settings that would stand (R82). -/
def formedTurner (f : TurnerFields) (x : TurnerSettings) : TurnerSettings :=
  { travel := clampOr 1 10 f.travel x.travel
    pass := clampOr 10 120 f.pass x.pass
    spray := Vector.ofFn fun b => clampOr 0 300 f.spray[b] x.spray[b] }

/-- Whether clamping changed a turner setting given. -/
def turnerClamped (f : TurnerFields) (x : TurnerSettings) : Bool :=
  lowered f.travel x.travel || lowered f.pass x.pass || (List.finRange 8).any fun b => lowered f.spray[b] x.spray[b]

/-- The turner settings as a reply carries them. The 8 spray amounts are a fixed set and go without a count, in the request too: the
model's choice (log 62). -/
def turnerSettingFields (x : TurnerSettings) : List Fld :=
  [.h x.travel, .h x.pass] ++ (List.finRange 8).map fun b => .h x.spray[b]

def reqTurnerSettings (f : TurnerFields) (s : State) : Answer :=
  let x := formedTurner f s.settings.turner
  (s.withSettings { s.settings with turner := x }, .done (.flag (turnerClamped f x) :: turnerSettingFields x))

/-! ### TURNER-QUERY (R83) -/

/-- A request as TURNER-QUERY carries it. -/
def turnLine (r : TurnRequest) : List Fld := [.b (Vessel.box r.box).code, .h r.urgency, .w (minuteN r.minute), .b r.reason.code]

/-- The operation as TURNER-QUERY carries it. -/
def operationFields (op : Option TurnOperation) : List Fld :=
  [.optB (op.map fun x => (Vessel.box x.request.box).code), .optB (op.map (·.request.reason.code)),
   .optH (op.map (·.request.urgency)), .optW (op.map fun x => minuteN x.request.minute), .optN (op.map (·.lot))]

/-- A quantity a query gives only in one state. -/
def onlyWhen (p : Bool) (n : Nat) : Fld := .optN (if p then some n else none)

def reqTurnerQuery (s : State) : Answer :=
  let x := s.turner
  let travelling := x.state == .travelling
  let passing := x.state == .passing
  (s, .done ([.b x.state.code, .optB (x.cause.map FaultCause.code), .optN (x.knownPosition.map (·.val))] ++
    operationFields x.operation ++
    [onlyWhen travelling x.travelMinutes, onlyWhen travelling x.travelLimit, onlyWhen passing x.passMinutes,
     onlyWhen passing x.passLength, onlyWhen passing x.sprayInForce] ++
    Fld.list (x.queue.map turnLine) ++
    [.h x.target.val, .b x.action.code] ++ s.readingH .turner .position ++ s.readingB .turner .motion ++
    turnerSettingFields s.settings.turner))

/-! ### The meanings -/

/-- ZONE-MASK (R65). -/
def execZoneMask (place : Nat) (zones : List Nat) (s : State) : Host.Outcome State Fault Refusal :=
  .next (s.takeRequest 0x28#8 (reqZoneMask place zones))

/-- BOX-SETTINGS (R66). -/
def execBoxSettings (place : Nat) (fields : BoxFields) (s : State) : Host.Outcome State Fault Refusal :=
  .next (s.takeRequest 0x29#8 (reqBoxSettings place fields))

/-- BOX-HALT (R67). -/
def execBoxHalt (place : Nat) (demand : Option Nat) (s : State) : Host.Outcome State Fault Refusal :=
  .next (s.takeRequest 0x2A#8 (reqBoxHalt place demand))

/-- BOX-RESUME (R68). -/
def execBoxResume (place : Nat) (s : State) : Host.Outcome State Fault Refusal :=
  .next (s.takeRequest 0x2B#8 (reqBoxResume place))

/-- BOX-QUERY (R69). -/
def execBoxQuery (place : Nat) (s : State) : Host.Outcome State Fault Refusal :=
  .next (s.takeRequest 0x2C#8 (reqBoxQuery place))

/-- TURN-NOW (R74). -/
def execTurnNow (place : Nat) (s : State) : Host.Outcome State Fault Refusal :=
  .next (s.takeRequest 0x30#8 (reqTurnNow place))

/-- TURN-CANCEL (R78). -/
def execTurnCancel (place : Nat) (s : State) : Host.Outcome State Fault Refusal :=
  .next (s.takeRequest 0x31#8 (reqTurnCancel place))

/-- TURNER-SETTINGS (R82). -/
def execTurnerSettings (fields : TurnerFields) (s : State) : Host.Outcome State Fault Refusal :=
  .next (s.takeRequest 0x32#8 (reqTurnerSettings fields))

/-- TURNER-QUERY (R83). -/
def execTurnerQuery (s : State) : Host.Outcome State Fault Refusal :=
  .next (s.takeRequest 0x33#8 reqTurnerQuery)

end Sys2Proof.Machine
end

