-- ==== Sys2Proof/Machine/Kilns.lean ====
section
/-! DEFINITION. The requests of Kiln Firing and The Peat Fire (R90, R97, R102, R104, R114, R115). -/

namespace Sys2Proof.Machine

/-! ### KILN-PROGRAM (R90) -/

/-- The program of the fields given and kept, before Tfd and Tc are lowered (R90). -/
def clampedKiln (f : KilnFields) (x : KilnProgram) : KilnProgram :=
  { tfd := clampOrT 400 900 f.tfd x.tfd
    qb := clampOr 64 768 f.qb x.qb
    nb := clampOr 1 60 f.nb x.nb
    rr := clampOr 1 20 f.rr x.rr
    tc := clampOrT 600 1050 f.tc x.tc
    hc := clampOr 0 600 f.hc x.hc
    wfinal := clampOr 200 1500 f.wfinal x.wfinal
    wend := clampOr 100 1000 f.wend x.wend
    tcool := clampOrT 200 600 f.tcool x.tcool
    maxFreeDry := clampOr 120 2880 f.maxFreeDry x.maxFreeDry
    tmax := clampOrT 500 1100 f.tmax x.tmax }

/-- Tfd and Tc lowered to Tmax − 20 where they are above it (R90). -/
def KilnProgram.lower (x : KilnProgram) : KilnProgram := { x with tfd := min x.tfd (x.tmax - 20), tc := min x.tc (x.tmax - 20) }

/-- The program that would stand (R90). -/
def formedKiln (f : KilnFields) (x : KilnProgram) : KilnProgram := (clampedKiln f x).lower

/-- Whether a kiln program's values do not agree: Tc below 600, or Wfinal at or below Wend (R90). -/
def KilnProgram.disagrees (x : KilnProgram) : Bool := decide (x.tc < 600) || decide (x.wfinal ≤ x.wend)

/-- Whether clamping or lowering changed a field (R90: any value clamped or lowered, a kept Tfd or Tc included; log 18). -/
def kilnClamped (f : KilnFields) (old x : KilnProgram) : Bool :=
  decide ((x.tfd : Temp) ≠ f.tfd.getD old.tfd) || lowered f.qb x.qb || lowered f.nb x.nb || lowered f.rr x.rr ||
    decide ((x.tc : Temp) ≠ f.tc.getD old.tc) || lowered f.hc x.hc || lowered f.wfinal x.wfinal || lowered f.wend x.wend ||
    loweredT f.tcool x.tcool || lowered f.maxFreeDry x.maxFreeDry || loweredT f.tmax x.tmax

/-- A kiln program as a reply carries it, in the order of R89. -/
def kilnProgramFields (x : KilnProgram) : List Fld :=
  [.h x.tfd, .h x.qb, .h x.nb, .h x.rr, .h x.tc, .h x.hc, .h x.wfinal, .h x.wend, .h x.tcool, .h x.maxFreeDry, .h x.tmax]

def reqKilnProgram (place : Nat) (f : KilnFields) (s : State) : Answer :=
  s.withPlace (kilnNamed place) fun k =>
    if (s.kiln k).phase = .empty ∨ (s.kiln k).phase = .ready then
      let x := formedKiln f (s.kilnProgram k)
      if x.disagrees then s.refuse .range
      else
        (s.withSettings { s.settings with kilns := s.settings.kilns.set k x },
         .done (.flag (kilnClamped f (s.kilnProgram k) x) :: kilnProgramFields x))
    else s.refuse .conflict

/-! ### KILN-FORCE-PHASE (R97) -/

/-- The answer that gives the phase a kiln has entered. -/
def State.kilnEntered (s : State) (k : KilnId) : Answer := (s, .done [.b (s.kiln k).phase.code])

/-- Whether a code names CURING, which has a row for each of its sub-states (R86), or COOLING. -/
def forcesCuring (phase : Nat) : Bool := phase == KilnPhase.curingRamp.code || phase == KilnPhase.curingHold.code
def forcesCooling (phase : Nat) : Bool := phase == KilnPhase.cooling.code

def reqKilnForcePhase (place phase : Nat) (s : State) : Answer :=
  s.withPlace (kilnNamed place) fun k =>
    if forcesCuring phase then
      if (s.kiln k).phase = .freeDry then (s.kilnBreak k true).kilnEntered k else s.refuse .state
    else if forcesCooling phase then
      if (s.kiln k).phase = .curingRamp ∨ (s.kiln k).phase = .curingHold then (s.kilnCool k).kilnEntered k
      else s.refuse .state
    else s.refuse .range

/-! ### KILN-TRIP-CLEAR (R102) -/

/-- Whether a kiln's Ton is fresh and at or below Tmax − 50 (R102). -/
def State.tripMayClear (s : State) (k : KilnId) : Bool :=
  (s.fresh? (kilnSite k) .ton).any fun x => decide (x ≤ ((s.kilnProgram k).tmax : Int) - 50)

def reqKilnTripClear (place : Nat) (s : State) : Answer :=
  s.withPlace (kilnNamed place) fun k =>
    if (s.kiln k).phase = .tripped ∧ s.tripMayClear k = true then (s.tripClear k).kilnEntered k else s.refuse .state

/-! ### KILN-QUERY (R104) -/

/-- The drop from the latest held Ton and Toff (R104). -/
def State.heldDrop? (s : State) (k : KilnId) : Option Int :=
  match s.held? (kilnSite k) .ton, s.held? (kilnSite k) .toff with
  | some a, some b => some (kilnDrop a b)
  | _, _ => none

/-- What KILN-QUERY reports of the lot in a kiln (R104). -/
def kilnLotFields (l : Option Lot) : List Fld :=
  [.optN (l.map (·.number)), .optN (l.map (·.w)), .optN (l.bind (·.wload)), .optH (l.bind (·.d0)), .optN (l.bind (·.q)),
   .optW ((l.bind (·.breakMinute)).map minuteN), .optFlag (l.bind Lot.forced?)]

/-- What KILN-QUERY reports of a kiln (R104). -/
def State.kilnReport (s : State) (k : KilnId) : List Fld :=
  let x := s.kiln k
  [.b x.phase.code, .optB x.phase.subCode?, .optB (x.remembered.map KilnPhase.code)] ++ kilnLotFields (s.occupant? (.kiln k)) ++
  [.h x.freeDryMinutes, .h x.breakCount, .h x.ramp, .h x.holdMinutes, .h x.blindMinutes, .flag x.breakLate, .flag x.peatGrant,
   .h x.setpoint, .b x.gate.code, .b (damperCode x.damperOpen)] ++
  s.readingH (kilnSite k) .ton ++ s.readingH (kilnSite k) .toff ++ s.readingB (kilnSite k) .kilnBed ++
  s.readingB (kilnSite k) .burner ++ [.optH (s.heldDrop? k)] ++ kilnProgramFields (s.kilnProgram k)

def reqKilnQuery (place : Nat) (s : State) : Answer :=
  s.withPlace (kilnNamed place) fun k => (s, .done (s.kilnReport k))

/-! ### PEAT-SETTINGS and PEAT-QUERY (R114, R115) -/

/-- The peat settings as a reply carries them. -/
def peatSettingFields (x : PeatSettings) : List Fld := [.h x.spell, .h x.switchover, .h x.cutoff]

def reqPeatSettings (spell switchover cutoff : Option Nat) (s : State) : Answer :=
  let old := s.settings.peat
  let x : PeatSettings :=
    { spell := clampOr 10 120 spell old.spell, switchover := clampOr 1 15 switchover old.switchover
      cutoff := clampOr 1500 4000 cutoff old.cutoff }
  (s.withSettings { s.settings with peat := x },
   .done (.flag (lowered spell x.spell || lowered switchover x.switchover || lowered cutoff x.cutoff) :: peatSettingFields x))

/-- What PEAT-QUERY reports of a kiln (R115). -/
def State.peatKilnFields (s : State) (k : KilnId) : List Fld :=
  let l := s.occupant? (.kiln k)
  [.flag s.peat.asking[k], .flag s.peat.requested[k], .optN (l.map (·.peatGiven)), .optN (l.map (·.peatTarget)),
   .optN (l.map fun x => x.peatTarget - x.peatGiven)]

/-- The reply of PEAT-QUERY (R115). The holder and the route commanded carry the place codes of 12.1, K1 21 and K2 22; an absent
holder, and a route NONE, carry the omitted value 0xFF, the model's choice (log 17). -/
def reqPeatQuery (s : State) : Answer :=
  let x := s.peat
  let switching := x.state == .switching
  let granted := x.state == .granted
  (s, .done ([.b x.state.code, .optB (x.holder.map fun k => (Vessel.kiln k).code), onlyWhen switching x.switchMinutes,
      onlyWhen switching x.switchTime, onlyWhen granted x.spellMinutes, onlyWhen granted x.spellLength] ++
    s.peatKilnFields 0 ++ s.peatKilnFields 1 ++ [.optB (x.route.map fun k => (Vessel.kiln k).code)] ++
    s.readingB .peat .fireState ++ s.readingB .peat .route ++ peatSettingFields s.settings.peat))

/-! ### The meanings -/

/-- KILN-PROGRAM (R90). -/
def execKilnProgram (place : Nat) (fields : KilnFields) (s : State) : Host.Outcome State Fault Refusal :=
  .next (s.takeRequest 0x38#8 (reqKilnProgram place fields))

/-- KILN-FORCE-PHASE (R97). -/
def execKilnForcePhase (place phase : Nat) (s : State) : Host.Outcome State Fault Refusal :=
  .next (s.takeRequest 0x39#8 (reqKilnForcePhase place phase))

/-- KILN-TRIP-CLEAR (R102). -/
def execKilnTripClear (place : Nat) (s : State) : Host.Outcome State Fault Refusal :=
  .next (s.takeRequest 0x3A#8 (reqKilnTripClear place))

/-- KILN-QUERY (R104). -/
def execKilnQuery (place : Nat) (s : State) : Host.Outcome State Fault Refusal :=
  .next (s.takeRequest 0x3B#8 (reqKilnQuery place))

/-- PEAT-SETTINGS (R114). -/
def execPeatSettings (spell switchover cutoff : Option Nat) (s : State) : Host.Outcome State Fault Refusal :=
  .next (s.takeRequest 0x40#8 (reqPeatSettings spell switchover cutoff))

/-- PEAT-QUERY (R115). -/
def execPeatQuery (s : State) : Host.Outcome State Fault Refusal :=
  .next (s.takeRequest 0x41#8 reqPeatQuery)

end Sys2Proof.Machine
end

