-- ==== Sys2Proof/Machine/Excise.lean ====
section
/-! DEFINITION. The requests of Excise Sampling and the Journal and of Alarms and the Horn (R119, R127, R132 to R135, R140, R143,
R146, R147). -/

namespace Sys2Proof.Machine

/-! ### SAMPLER-MODE and SAMPLER-QUERY (R119, R127) -/

def reqSamplerMode (mode : Nat) (s : State) : Answer :=
  match SamplerMode.ofCode? mode with
  | none => s.refuse .malformed
  | some m => (s.withSettings { s.settings with samplerMode := m }, .done [unclamped, .b m.code])

/-- A draw or a pending draw's lot and point. -/
def drawFields (d : Option Draw) : List Fld :=
  [.optN (d.map (·.lot)), .optB (d.map (·.point.code)), .optN (d.map (·.pot.val + 1)), .optN (d.map (·.minutes))]

def pendingLine (d : PendingDraw) : List Fld := [.h d.lot, .b d.point.code]

/-- A pot as SAMPLER-QUERY carries it. -/
def potFields (x : Pot) : List Fld :=
  [.b x.state.code, .optN (x.sample.map (·.lot)), .optB (x.sample.map (·.point.code)), .optW (x.sample.map (·.number))]

/-- SAMPLER-QUERY (R127). The 24 pots are a fixed set and go without a count: the model's choice (log 62). -/
def reqSamplerQuery (s : State) : Answer :=
  let x := s.sampler
  (s, .done ([.b x.state.code, .b s.settings.samplerMode.code, .h x.lastDrawn] ++ drawFields x.draw ++
    Fld.list (x.pending.map pendingLine) ++ [.h (x.command.elim 0 fun p => ((p.val + 1 : Nat) : Int))] ++
    x.pots.toList.flatMap potFields ++ s.readingH .sampler .presenceLow ++ s.readingH .sampler .presenceHigh ++
    s.readingB .sampler .drawStatus))

/-! ### JOURNAL-READ (R132) -/

/-- Whether the journal takes its four requests (R131). -/
def State.journalRuns (s : State) : Bool := s.journal.state == .running

/-- Bytes 0..29 of a stored entry as read from its place; where its check fails, its number and 26 bytes 0 (R132, 12.3). -/
def State.readEntry (s : State) (n : Nat) : List Byte :=
  let bytes := Store.record s.store (Entry.place n)
  if recordCheck bytes then bytes.take 30 else toBytes 4 n ++ List.replicate 26 0#8

/-- The numbers JOURNAL-READ returns: stored ones from the start upward, at most the count (R132). -/
def State.readNumbers (s : State) (start count : Nat) : List Nat :=
  match s.newestStored? with
  | none => []
  | some newest => (List.range (min count (newest + 1 - start))).map (start + ·)

/-- The head of JOURNAL-READ's reply after the outcome (12.3). -/
def State.journalHead (s : State) (returned : Nat) : List Fld :=
  [.b returned, .w s.journal.oldest, .w (s.newestStored?.getD 0), .w s.journal.next, .h s.heldCount, .h s.journal.reserved,
   .h s.room, .b s.journal.state.code, .flag s.journal.fault]

def reqJournalRead (start count : Nat) (s : State) : Answer :=
  if !s.journalRuns then s.refuse .busy
  else if count < 1 ∨ 7 < count then s.refuse .range
  else if start < s.journal.oldest then s.refuse .range
  else
    let numbers := s.readNumbers start count
    (s, .done (s.journalHead numbers.length ++ (numbers.flatMap s.readEntry).map fun b => .b b.toNat))

/-! ### JOURNAL-RELEASE (R133) -/

/-- Whether a FILLED pot's SAMPLE entry lies at or below a number (R133). -/
def State.pinned (s : State) (n : Nat) : Bool :=
  s.sampler.pots.toList.any fun x => x.state == .filled && x.sample.any fun y => decide (y.number ≤ n)

/-- The held entries up to a number released (R133). -/
def State.release (s : State) (n : Nat) : State :=
  ((s.withJournal { s.journal with oldest := n + 1 }).enqueueWrite (.base (n + 1))).journalTest

def reqJournalRelease (through : Nat) (s : State) : Answer :=
  if !s.journalRuns then s.refuse .busy
  else
    match s.newestStored? with
    | none => s.refuse .range
    | some newest =>
      if newest < through ∨ through < s.journal.oldest then s.refuse .range
      else if s.pinned through then s.refuse .conflict
      else
        let t := s.release through
        (t, .done [.h (through + 1 - s.journal.oldest : Nat), .w t.journal.oldest, .h t.room])

/-! ### JOURNAL-MARK and JOURNAL-FORMAT (R134, R135) -/

def reqJournalMark (reference : BitVec 32) (s : State) : Answer :=
  if !s.journalRuns then s.refuse .busy
  else if s.roomOffered < 1 then s.journalFull.refuse .full
  else (s.numberEntry false { Entry.blank .mark 0 with ref := reference.toNat }, .done [.w s.journal.next])

/-- Whether a format may be taken: nothing held, reserved or FILLED (R135). -/
def State.mayFormat (s : State) : Bool :=
  decide (s.heldCount = 0) && decide (s.journal.reserved = 0) && decide (s.filledPots = 0)

def reqJournalFormat (s : State) : Answer :=
  if !s.journalRuns then s.refuse .busy
  else if s.mayFormat then ((s.enqueueWrite (.base s.journal.next)).setJournalState .formatting, .done [])
  else s.refuse .conflict

/-! ### ALARM-ENABLES (R140) -/

/-- The source and category a change names. -/
def enableNamed (c : EnableChange) : Option (Source × Category) :=
  match Source.ofCode? c.source, Category.ofCode? c.category with
  | some x, some y => some (x, y)
  | _, _ => none

/-- The changes of a request, each with its new value, where every code exists. -/
def namedChanges? : List EnableChange → Option (List ((Source × Category) × Bool))
  | [] => some []
  | c :: rest =>
    match enableNamed c, namedChanges? rest with
    | some x, some xs => some ((x, c.enabled) :: xs)
    | _, _ => none

/-- One change applied to the pairs that are disabled. -/
def applyEnable (off : List (Source × Category)) (c : (Source × Category) × Bool) : List (Source × Category) :=
  let rest := off.filter (· ≠ c.1)
  if c.2 then rest else rest ++ [c.1]

/-- Whether a standing condition is entered when its enable has become enabled: it has no entry, or one CLEARED-UNACK (R140). -/
def State.entersOnEnable (s : State) (c : Condition) : Bool :=
  match s.alarmEntry? c.source c.kind with
  | none => true
  | some e => e.state == .clearedUnack

/-- A change to enabled takes effect at once: each standing condition of the source and category that has no entry, or one
CLEARED-UNACK, is handled as an arising (R140). That they are taken in the order of the standing set is the model's choice (log 20). -/
def State.enterEnabled (s : State) (p : Source × Category) : State :=
  (s.alarms.standing.filter fun c => c.source == p.1 && c.kind.category == p.2).foldl
    (fun s c => if s.entersOnEnable c then s.arise c.source c.kind else s) s

/-- One change of ALARM-ENABLES, whole, before the next (R140). A change that names enabled counts as one to enabled whatever the enable
stood at before: the model's choice (log 20). -/
def State.applyChange (s : State) (c : (Source × Category) × Bool) : State :=
  let s := s.withSettings { s.settings with disabledAlarms := applyEnable s.settings.disabledAlarms c }
  if c.2 then s.enterEnabled c.1 else s

def reqAlarmEnables (changes : List EnableChange) (s : State) : Answer :=
  if changes.length < 1 ∨ 40 < changes.length then s.refuse .malformed
  else
    match namedChanges? changes with
    | none => s.refuse .malformed
    | some xs =>
      let t := xs.foldl State.applyChange s
      let changed := ((xs.map (·.1)).eraseDups).countP fun p => s.alarmEnabled p.1 p.2 != t.alarmEnabled p.1 p.2
      (t, .done [unclamped, .h changed])

/-! ### ALARM-ENABLES-QUERY (R147) -/

/-- The enables of a source, in category order. -/
def State.enableLine (s : State) (x : Source) : List Fld := Category.all.map fun c => .flag (s.alarmEnabled x c)

/-- The enables of one source or of all, in code order (R147). The reply is a counted list, one item of four flags a source without the
source's code, its count 1 or 51: R147 does not give the form, and the model chooses (logs 59 and 62). -/
def reqAlarmEnablesQuery (source : Option Nat) (s : State) : Answer :=
  match source with
  | none => (s, .done (Fld.list (Source.all.map s.enableLine)))
  | some code =>
    match Source.ofCode? code with
    | none => s.refuse .malformed
    | some x => (s, .done (Fld.list [s.enableLine x]))

/-! ### ALARM-ACK (R143) -/

/-- An entry acknowledged: none where it leaves the list. -/
def AlarmEntry.acked (e : AlarmEntry) : Option AlarmEntry :=
  match e.state with
  | .activeUnack => some { e with state := .activeAck }
  | .clearedUnack => none
  | .activeAck => some e

/-- The entries chosen by an acknowledgement acknowledged, with the numbers acknowledged and removed, and the horn re-tested
(R143). -/
def State.acknowledge (s : State) (chosen : AlarmEntry → Bool) : Answer :=
  let acked := s.alarms.entries.countP fun e => chosen e && e.state == .activeUnack
  let removed := s.alarms.entries.countP fun e => chosen e && e.state == .clearedUnack
  ((s.withAlarms { s.alarms with
      entries := s.alarms.entries.filterMap fun e => if chosen e then e.acked else some e }).hornTest,
   .done [.h acked, .h removed])

def reqAlarmAck (what : AckTarget) (s : State) : Answer :=
  match what with
  | .all => s.acknowledge fun _ => true
  | .one source kind =>
    match Source.ofCode? source, AlarmKind.ofCode? kind with
    | some x, some k => if (s.alarmEntry? x k).isSome then s.acknowledge fun e => e.names x k else s.refuse .state
    | _, _ => s.refuse .malformed

/-! ### ALARM-QUERY (R147) -/

/-- The entries in a category, and the unacknowledged ones (R147, R166). -/
def State.alarmsIn (s : State) (c : Category) : Nat := s.alarms.entries.countP fun e => e.kind.category == c
def State.unacked (s : State) : Nat := s.alarms.entries.countP fun e => e.state != .activeAck

/-- An entry of the list with its position, from 1. -/
def alarmLine (i : Nat) (e : AlarmEntry) : List Fld :=
  [.h i, .b e.source.code, .b e.kind.code, .b e.kind.category.code, .w (minuteN e.raised), .b e.state.code]

/-- The lines of entries from a position on. -/
def alarmLines : Nat → List AlarmEntry → List (List Fld)
  | _, [] => []
  | i, e :: rest => alarmLine i e :: alarmLines (i + 1) rest

/-- ALARM-QUERY (R147). The four category counts are a fixed set and go without a count of them: the model's choice (log 62). -/
def reqAlarmQuery (start : Nat) (s : State) : Answer :=
  if start < 1 ∨ 48 < start then s.refuse .range
  else
    (s, .done (Fld.list (alarmLines start ((s.alarms.entries.drop (start - 1)).take 12)) ++ [.h s.alarms.entries.length] ++
      (Category.all.map fun c => .h (s.alarmsIn c)) ++
      [.h s.unacked, .b s.alarms.horn.code, .h s.alarms.hornMinutes, .flag s.hornLine, .flag s.alarms.overflow]))

/-! ### HORN-SETTINGS (R146) -/

/-- HORN-SETTINGS (R146). The four enables are a fixed set and go without a count: the model's choice (log 62). -/
def reqHornSettings (f : HornFields) (s : State) : Answer :=
  let old := s.settings.horn
  let x : HornSettings :=
    { hon := clampOr 1 10 f.hon old.hon, hoff := clampOr 0 60 f.hoff old.hoff
      enables := Vector.ofFn fun c => f.enables[c].getD old.enables[c] }
  ((s.withSettings { s.settings with horn := x }).hornTest,
   .done ([.flag (lowered f.hon x.hon || lowered f.hoff x.hoff), .h x.hon, .h x.hoff] ++ x.enables.toList.map Fld.flag))

/-! ### The meanings -/

/-- SAMPLER-MODE (R119). -/
def execSamplerMode (mode : Nat) (s : State) : Host.Outcome State Fault Refusal :=
  .next (s.takeRequest 0x48#8 (reqSamplerMode mode))

/-- SAMPLER-QUERY (R127). -/
def execSamplerQuery (s : State) : Host.Outcome State Fault Refusal :=
  .next (s.takeRequest 0x49#8 reqSamplerQuery)

/-- JOURNAL-READ (R132). -/
def execJournalRead (start count : Nat) (s : State) : Host.Outcome State Fault Refusal :=
  .next (s.takeRequest 0x4A#8 (reqJournalRead start count))

/-- JOURNAL-RELEASE (R133). -/
def execJournalRelease (through : Nat) (s : State) : Host.Outcome State Fault Refusal :=
  .next (s.takeRequest 0x4B#8 (reqJournalRelease through))

/-- JOURNAL-MARK (R134). -/
def execJournalMark (reference : BitVec 32) (s : State) : Host.Outcome State Fault Refusal :=
  .next (s.takeRequest 0x4C#8 (reqJournalMark reference))

/-- JOURNAL-FORMAT (R135). -/
def execJournalFormat (s : State) : Host.Outcome State Fault Refusal :=
  .next (s.takeRequest 0x4D#8 reqJournalFormat)

/-- ALARM-ENABLES (R140). -/
def execAlarmEnables (changes : List EnableChange) (s : State) : Host.Outcome State Fault Refusal :=
  .next (s.takeRequest 0x50#8 (reqAlarmEnables changes))

/-- ALARM-ENABLES-QUERY (R147). -/
def execAlarmEnablesQuery (source : Option Nat) (s : State) : Host.Outcome State Fault Refusal :=
  .next (s.takeRequest 0x51#8 (reqAlarmEnablesQuery source))

/-- ALARM-ACK (R143). -/
def execAlarmAck (what : AckTarget) (s : State) : Host.Outcome State Fault Refusal :=
  .next (s.takeRequest 0x52#8 (reqAlarmAck what))

/-- ALARM-QUERY (R147). -/
def execAlarmQuery (start : Nat) (s : State) : Host.Outcome State Fault Refusal :=
  .next (s.takeRequest 0x53#8 (reqAlarmQuery start))

/-- HORN-SETTINGS (R146). -/
def execHornSettings (fields : HornFields) (s : State) : Host.Outcome State Fault Refusal :=
  .next (s.takeRequest 0x54#8 (reqHornSettings fields))

end Sys2Proof.Machine
end

