-- ==== Sys2Proof/Machine/Link.lean ====
section
/-! DEFINITION. The requests of The Field Link (R150, R151, R153, R160, R161). -/

namespace Sys2Proof.Machine

/-! ### ROLL-CALL (R151) -/

def reqRollCall (s : State) : Answer :=
  if s.link.state = .run ∨ s.link.state = .rollCall then s.refuse .state else (s.beginRollCall false, .done [])

/-! ### BIND-STATION (R150) -/

/-- The roster entry of a serial. -/
def State.rosterOf? (s : State) (n : Serial) : Option RosterEntry := s.link.roster.find? (·.serial == n)

/-- Whether a serial may be bound to a site: it is in the roster and its kind serves the site (R150). -/
def State.mayBind (s : State) (x : Site) (n : Serial) : Bool := (s.rosterOf? n).any fun e => e.kind == x.stationKind

/-- The roster entry of a serial in a new state. -/
def State.setStation (s : State) (n : Serial) (x : StationState) : State :=
  s.withLink { s.link with roster := s.link.roster.map fun e => if e.serial = n then { e with state := x } else e }

/-- A place's binding removed; the station that held it returns to FOUND (R150). -/
def State.unbind (s : State) (x : Site) : State :=
  match s.serialOf? x with
  | none => s
  | some n => (s.withSettings { s.settings with bindings := s.settings.bindings.set x.index none }).setStation n .found

/-- A serial bound to a site: its binding elsewhere is removed first, and what the site held returns to FOUND (R150). -/
def State.bind (s : State) (x : Site) (n : Serial) : State :=
  let s := match s.siteOf? n with | some y => s.unbind y | none => s
  let s := s.unbind x
  (s.withSettings { s.settings with bindings := s.settings.bindings.set x.index (some n) }).setStation n .bound

/-- The binding table's entry for a site, as a reply carries it: a serial takes the 2 bytes of R171 (log 60). -/
def State.bindingField (s : State) (x : Site) : List Fld := [.optN ((s.serialOf? x).map BitVec.toNat)]

/-- Whether the link takes a binding: LINK-IDLE with no announcement waiting (R150). -/
def State.bindable (s : State) : Bool := s.link.state == .idle && !s.link.announcing

/-- A binding asked of a site (R150). -/
def State.bindSite (s : State) (x : Site) : Option Serial → Answer
  | none => (s.unbind x, .done ((s.unbind x).bindingField x))
  | some n => if s.mayBind x n then (s.bind x n, .done ((s.bind x n).bindingField x)) else s.refuse .conflict

/-- A binding asked of a unit that no station serves: any serial's kind is the wrong one, and the table's entry is none (R150,
log 8). -/
def State.bindNowhere (s : State) : Option Serial → Answer
  | none => (s, .done [.optN none])
  | some _ => s.refuse .conflict

def reqBindStation (site : Nat) (serial : Option Serial) (s : State) : Answer :=
  match Site.ofCode? site with
  | some x => if s.bindable then s.bindSite x serial else s.refuse .state
  | none =>
    if stationless site then (if s.bindable then s.bindNowhere serial else s.refuse .state) else s.refuse .unknownPlace

/-! ### SLOT-PLAN (R153) -/

/-- Whether a list names nothing twice. -/
def noRepeat {α : Type} [DecidableEq α] : List α → Bool
  | [] => true
  | x :: rest => !(rest.contains x) && noRepeat rest

/-- An upstream slot of a station's kind, where its codes name one. -/
def namedSlot? (k : StationKind) (f : SlotFields) : Option Slot :=
  match (if f.reading = 0 then none else k.readings[f.reading - 1]?), Format.ofCode? f.format with
  | some r, some x => some { reading := r, format := x }
  | _, _ => none

/-- A command of a station's kind, where its code names one. -/
def namedCommand? (k : StationKind) (code : Nat) : Option Command := if code = 0 then none else k.commands[code - 1]?

/-- All of a list's items where each gives a value. -/
def allSome {α β : Type} (f : α → Option β) : List α → Option (List β)
  | [] => some []
  | x :: rest =>
    match f x, allSome f rest with
    | some y, some ys => some (y :: ys)
    | _, _ => none

/-- A station of a plan as its fields give it, where every reading and command belongs to its kind and appears at most once. -/
def namedStation? (k : StationKind) (f : StationFields) : Option PlanStation :=
  match allSome (namedSlot? k) f.ups, allSome (namedCommand? k) f.downs with
  | some ups, some downs =>
    if noRepeat (ups.map (·.reading)) && noRepeat downs then
      some { position := f.position, serial := f.serial, ups := ups, downs := downs }
    else none
  | _, _ => none

/-- The kinds of station. -/
def StationKind.all : List StationKind := [.steep, .box, .kiln, .sampler, .turner, .peat]

/-- A station read by the kind its serial has in the roster. A serial that is not there has a kind the part does not know: the check
of its readings and commands fails where they fit no kind at all, and otherwise the serial fails the next check (R153, log 37). -/
def State.planStation? (s : State) (f : StationFields) : Option (Option PlanStation) :=
  match s.rosterOf? f.serial with
  | none => if StationKind.all.any fun k => (namedStation? k f).isSome then some none else none
  | some e => (namedStation? e.kind f).map some

/-- Whether every format a plan names exists; PMP refuses another before the checks (R163). -/
def formatsExist (fields : List StationFields) : Bool := fields.all fun f => f.ups.all fun x => (Format.ofCode? x.format).isSome

/-- A station put into a plan by its position. -/
def insertStation (t : PlanStation) : List PlanStation → List PlanStation
  | [] => [t]
  | x :: rest => if t.position ≤ x.position then t :: x :: rest else x :: insertStation t rest

/-- A plan's stations in position order. -/
def sortStations (ts : List PlanStation) : List PlanStation := ts.foldr insertStation []

/-- Whether a station's serial is in the roster at its position, and its entry is BOUND or ACTIVE (R153). -/
def State.stationPlaced (s : State) (t : PlanStation) : Bool :=
  (s.rosterAt? t.position).any fun e => e.serial == t.serial && (e.state == .bound || e.state == .active)

/-- Whether every STATE reading of a plan is FULL (R153). -/
def statesFull (ts : List PlanStation) : Bool := ts.all fun t => t.ups.all fun x => x.reading.isValue || x.format == .full

/-- The upstream slots of a plan that are neither zone slots nor group echoes (R153). -/
def imageSlots (ts : List PlanStation) : Nat := (ts.map fun t => t.ups.countP fun x => !x.reading.isZone).sum

/-- The checks of SLOT-PLAN, in the order of R153's table. -/
def State.checkPlan (s : State) (fields : List StationFields) : Except Reason (List PlanStation) :=
  if fields.length < 1 ∨ 30 < fields.length ∨ formatsExist fields = false then .error .malformed
  else if s.link.state ≠ .idle ∧ s.link.state ≠ .run then .error .state
  else if !(noRepeat (fields.map (·.position)) && noRepeat (fields.map (·.serial))) then .error .malformed
  else
    match allSome s.planStation? fields with
    | none => .error .malformed
    | some found =>
      match allSome id found with
      | none => .error .conflict
      | some ts =>
        if !(ts.all s.stationPlaced) then .error .conflict
        else if !(statesFull ts) then .error .range
        else if 1280 < (Plan.mk ts 0).upBits then .error .range
        else if 1024 < (Plan.mk ts 0).downBits then .error .range
        else if 64 < imageSlots ts then .error .range
        else .ok (sortStations ts)

def reqSlotPlan (fields : List StationFields) (s : State) : Answer :=
  match s.checkPlan fields with
  | .error r => s.refuse r
  | .ok ts => ((s.holdPlan ts).ended .link .planMismatch, .done [.h (Plan.mk ts 0).upBits, .h (Plan.mk ts 0).downBits])

/-! ### LINK-RESTART and LINK-SETTINGS (R160) -/

def reqLinkRestart (s : State) : Answer := if s.link.force.isSome then (s.goDown, .done []) else s.refuse .state

def reqLinkSettings (autoRollCall : Bool) (s : State) : Answer :=
  (s.withSettings { s.settings with autoRollCall := autoRollCall }, .done [unclamped, .flag autoRollCall])

/-! ### LINK-QUERY (R161) -/

/-- A roster entry as LINK-QUERY carries it: a serial takes the 2 bytes of R171 (log 60). -/
def State.rosterLine (s : State) (e : RosterEntry) : List Fld :=
  [.h e.position, .b e.kind.code, .h e.serial.toNat, .optB ((s.siteOf? e.serial).map Site.code), .b e.state.code, .h e.offset,
   .h e.failCount]

/-- Whether the held plan is in force (R148). Plans are compared by what they hold, so a plan accepted again while an identical one is in
force counts as in force before its own announcement is accepted: the model's choice (log 61). -/
def State.planForced (s : State) : Bool := s.link.force.isSome && s.link.force == s.settings.plan

/-- LINK-QUERY (R161). The cycle count takes the 2 bytes of R171 (log 60). -/
def reqLinkQuery (start : Nat) (s : State) : Answer :=
  if start < 1 ∨ 30 < start then s.refuse .range
  else
    let x := s.link
    let plan := s.settings.plan
    (s, .done ([.b x.state.code, .h x.cycleCount.toNat, .optH x.expected, .optH s.e0?, .h x.missed, .h x.retry,
        .flag plan.isSome, .flag s.planForced, .optN (plan.map Plan.upBits), .optN (plan.map Plan.downBits),
        .optN x.shortPosition, .h x.duplicates, .flag s.settings.autoRollCall, .h x.roster.length] ++
      Fld.list (((x.roster.filter fun e => decide (start ≤ e.position)).take 8).map s.rosterLine)))

/-! ### The meanings -/

/-- ROLL-CALL (R151). -/
def execRollCall (s : State) : Host.Outcome State Fault Refusal :=
  .next (s.takeRequest 0x58#8 reqRollCall)

/-- BIND-STATION (R150). -/
def execBindStation (site : Nat) (serial : Option Serial) (s : State) : Host.Outcome State Fault Refusal :=
  .next (s.takeRequest 0x59#8 (reqBindStation site serial))

/-- SLOT-PLAN (R153). -/
def execSlotPlan (stations : List StationFields) (s : State) : Host.Outcome State Fault Refusal :=
  .next (s.takeRequest 0x5A#8 (reqSlotPlan stations))

/-- LINK-RESTART (R160). -/
def execLinkRestart (s : State) : Host.Outcome State Fault Refusal :=
  .next (s.takeRequest 0x5B#8 reqLinkRestart)

/-- LINK-SETTINGS (R160). -/
def execLinkSettings (autoRollCall : Bool) (s : State) : Host.Outcome State Fault Refusal :=
  .next (s.takeRequest 0x5C#8 (reqLinkSettings autoRollCall))

/-- LINK-QUERY (R161). -/
def execLinkQuery (start : Nat) (s : State) : Host.Outcome State Fault Refusal :=
  .next (s.takeRequest 0x5D#8 (reqLinkQuery start))

end Sys2Proof.Machine
end

