-- ==== Sys2Proof/Machine/Port.lean ====
section
/-! DEFINITION. The requests of The Plant Message Port (R165, R166, R168, R169). -/

namespace Sys2Proof.Machine

/-! ### NEXT-NOTICE and SET-NOTICE-MASK (R165, 12.3) -/

/-- The holder a STATE-CHANGE notice of the peat fire carries: its place code, none 0 (12.3). -/
def holderCode (k : Option KilnId) : Nat := k.elim 0 fun k => (Vessel.kiln k).code

/-- The payload of a notice (12.3). -/
def NoticeBody.fields : NoticeBody → List Fld
  | .alarmRaised x k m => [.b x.code, .b k.code, .b k.category.code, .w (minuteN m)]
  | .alarmCleared x k => [.b x.code, .b k.code]
  | .stateChange x a z => [.b x.code, .b a, .b z]
  | .peatChange a z h g => [.b 41, .b a.code, .b z.code, .b (holderCode h), .b (holderCode g)]
  | .transferDone l p d e => [.h l, .b p.code, .b d.code, .w e]
  | .journalEntry n k l => [.w n, .b k.code, .h l]
  | .linkState a z => [.b a.code, .b z.code]
  | .saveDone ok => [.b (if ok then 0 else 1)]

/-- A notice as NEXT-NOTICE carries it, with the count still queued (12.3). -/
def Notice.fields (n : Notice) (queued : Nat) : List Fld :=
  [.b queued, .h n.number.toNat, .b n.body.kind.code, .w (minuteN n.minute)] ++ n.body.fields

def reqNextNotice (s : State) : Answer :=
  match s.port.notices with
  | [] => (s, .done [.b 0])
  | n :: rest => (s.withPort { s.port with notices := rest }, .done (n.fields rest.length))

/-- SET-NOTICE-MASK (R165). The seven enables are a fixed set and go without a count: the model's choice (log 62). -/
def reqSetNoticeMask (enables : Vector Bool 7) (s : State) : Answer :=
  (s.withSettings { s.settings with noticeMask := enables }, .done (unclamped :: enables.toList.map Fld.flag))

/-! ### STATUS and IDENTIFY (R166) -/

/-- What STATUS reports (R166). The four category counts go without a count of them: the model's choice (log 62). -/
def State.statusFields (s : State) : List Fld :=
  [.flag s.clock.isSet, .flag s.port.defaultsInUse, .flag s.alarms.overflow, .flag s.port.noticeOverflow, .flag s.saveBusy,
   .flag s.journal.fault, .h s.port.badFrames, .h s.port.discarded, .w (minuteN s.now), .b s.link.state.code,
   .b s.journal.state.code, .b s.sampler.state.code] ++
  (Category.all.map fun c => .h (s.alarmsIn c)) ++
  [.h s.unacked, .h s.port.notices.length, .b s.port.lastReset.code]

/-- The two overflow flags cleared (R166). -/
def State.clearOverflows (s : State) : State :=
  (s.withAlarms { s.alarms with overflow := false }).withPort { s.port with noticeOverflow := false }

def reqStatus (s : State) : Answer := (s.clearOverflows, .done s.statusFields)

/-- What IDENTIFY reports: the vendor, the part, the revision, the journal geometry and the capacities (R166, R171). -/
def identity : List Fld :=
  [.b 0x55, .h 310, .b 1, .h Config.journalCapacity, .h 1, .h 32, .h Config.lotCapacity, .h Config.alarmCapacity,
   .h Config.noticeCapacity, .h Config.rosterCapacity]

def reqIdentify (s : State) : Answer := (s, .done identity)

/-! ### SAVE-SETTINGS and RESTART (R168, R169) -/

def reqSaveSettings (s : State) : Answer :=
  if s.saveBusy then s.refuse .busy else (s.withPort { s.port with saving := some s.settings }, .done [])

def reqRestart (s : State) : Answer :=
  if s.saveBusy || s.journal.fault then s.refuse .busy
  else (s.withPort { s.port with restart := .replying }, .done [])

/-! ### The meanings -/

/-- NEXT-NOTICE (R165). -/
def execNextNotice (s : State) : Host.Outcome State Fault Refusal :=
  .next (s.takeRequest 0x60#8 reqNextNotice)

/-- SET-NOTICE-MASK (R165). -/
def execSetNoticeMask (enables : Vector Bool 7) (s : State) : Host.Outcome State Fault Refusal :=
  .next (s.takeRequest 0x61#8 (reqSetNoticeMask enables))

/-- STATUS (R166). -/
def execStatus (s : State) : Host.Outcome State Fault Refusal :=
  .next (s.takeRequest 0x62#8 reqStatus)

/-- IDENTIFY (R166). -/
def execIdentify (s : State) : Host.Outcome State Fault Refusal :=
  .next (s.takeRequest 0x63#8 reqIdentify)

/-- SAVE-SETTINGS (R168). -/
def execSaveSettings (s : State) : Host.Outcome State Fault Refusal :=
  .next (s.takeRequest 0x64#8 reqSaveSettings)

/-- RESTART (R169). -/
def execRestart (s : State) : Host.Outcome State Fault Refusal :=
  .next (s.takeRequest 0x65#8 reqRestart)

end Sys2Proof.Machine
end

