-- ==== Sys2Proof/Machine/Power.lean ====
section
/-! DEFINITION. The meanings of what happens to the part as a whole: power, the reset input, a RESTART's reset and the plant minute
(R1, R2, R130, R165, R167, R169). -/

namespace Sys2Proof.Machine

/-- What a command does while the part runs; unpowered or held in reset it does nothing (R1). -/
def State.whenRunning (s : State) (f : State → State) : State := if s.running then f s else s

/-- The lines of the part: power and the reset input. -/
def State.withLines (s : State) (powered inReset : Bool) : State := { s with powered := powered, inReset := inReset }

/-- Power is applied: every block takes its POWER-ON values and the settings image is read (R165, R167). -/
def execPowerOn (eepromAnswers : Bool) (s : State) : Host.Outcome State Fault Refusal :=
  .next ((s.powerUp .powerOn eepromAnswers).withLines true s.inReset)

/-- The reset input is asserted: the effect of POWER-ON at any moment, the stores left as an abrupt stop leaves them; the part is
held until the input is released (R169). -/
def execResetInput (left : LossLeft) (eepromAnswers : Bool) (s : State) : Host.Outcome State Fault Refusal :=
  .next (if s.powered then ((s.afterLoss left).powerUp .powerOn eepromAnswers).withLines true true else s.withLines false true)

/-- The reset input is released: the part resumes from its POWER-ON values (R1). -/
def execResetInputRelease (eepromAnswers : Bool) (s : State) : Host.Outcome State Fault Refusal :=
  .next (if s.powered && s.inReset then (s.powerUp .powerOn eepromAnswers).withLines true false else s.withLines s.powered false)

/-- The supply is lost: what was not in a store is gone, and the stores are as the loss leaves them (R130, R133, R168). -/
def execPowerLoss (left : LossLeft) (s : State) : Host.Outcome State Fault Refusal :=
  .next (if s.powered then ((s.afterLoss left).blank .powerOn true).withLines false s.inReset else s)

/-- Whether a RESTART may reset the part: the write path is stored (R169). -/
def State.restartReady (s : State) : Bool := s.running && decide (s.port.restart = .draining) && s.writePath.isEmpty

/-- A RESTART resets the part once the write path is stored (R169). -/
def execRestartReset (eepromAnswers : Bool) (s : State) : Host.Outcome State Fault Refusal :=
  .next (if s.restartReady then s.leaveFormat.powerUp .restart eepromAnswers else s)

/-- A minute boundary (R1, R2). -/
def execPlantMinute (order : List Receiver) (s : State) : Host.Outcome State Fault Refusal :=
  .next (s.whenRunning fun s => s.plantMinute order)

end Sys2Proof.Machine
end

