-- ==== Sys2Proof/Machine/Plant.lean ====
section
/-! DEFINITION. The meanings of the plant blocks' own events: each makes the test of its rule on the state as it stands, or takes
the reading whose arrival it is (chapters 1 to 9). An event whose condition does not hold changes nothing. -/

namespace Sys2Proof.Machine

/-- A reading arrives for a site's station, where the image holds an entry for it, and its block acts on it (R149, R155). -/
def State.whenArrives (s : State) (x : Site) (r : Reading) (value : Int) (f : State → State) : State :=
  if s.running && (s.imageEntry? x r).isSome then f (s.arrive x r value) else s

/-! ### Steeping and Water Rounds -/

/-- IMMERSION-END (R33). -/
def execImmersionEnd (v : SteepId) (s : State) : Host.Outcome State Fault Refusal :=
  .next (s.whenRunning fun s => s.immersionTest v)

/-- AIR-REST-END (R35). -/
def execAirRestEnd (v : SteepId) (s : State) : Host.Outcome State Fault Refusal :=
  .next (s.whenRunning fun s => s.airRestTest v)

/-- FILL-TIMEOUT (R37). -/
def execFillTimeout (v : SteepId) (s : State) : Host.Outcome State Fault Refusal :=
  .next (s.whenRunning fun s => if s.fillTimeoutDue v then s.fillLate v else s)

/-- A delivered-volume reading arrives (R32). -/
def execFillDelivered (v : SteepId) (reading : Int) (s : State) : Host.Outcome State Fault Refusal :=
  .next (s.whenArrives (steepSite v) .delivered reading fun s => s.volumeArrives v reading)

/-- A level state of COVERED arrives (R32). -/
def execImmersionStart (v : SteepId) (s : State) : Host.Outcome State Fault Refusal :=
  .next (s.whenArrives (steepSite v) .level Level.covered.code fun s => s.levelArrives v .covered)

/-- A level state arrives at a draining steep (R34). -/
def execDrainEnd (v : SteepId) (level : Level) (s : State) : Host.Outcome State Fault Refusal :=
  .next (s.whenArrives (steepSite v) .level level.code fun s => s.levelArrives v level)

/-- ROUND-START (R45, R46). -/
def execRoundStart (s : State) : Host.Outcome State Fault Refusal :=
  .next (s.whenRunning fun s => if s.roundDue then s.startRound else s)

/-! ### Germination Beds and The Turner -/

/-- BOX-MINUTES-TARGET (R60). -/
def execBoxMinutesTarget (b : BoxId) (s : State) : Host.Outcome State Fault Refusal :=
  .next (s.whenRunning fun s => s.boxTargetTest b)

/-- TAKE-HEAD (R75). -/
def execTakeHead (s : State) : Host.Outcome State Fault Refusal :=
  .next (s.whenRunning fun s => s.takeHeadTest)

/-- A position and a motion of STOPPED arrive together (R76). -/
def execTravelEnd (position : RailPos) (s : State) : Host.Outcome State Fault Refusal :=
  .next (s.whenArrives .turner .position position.val fun s =>
    ((s.whenArrives .turner .motion Motion.stopped.code id).positionArrives position).motionArrives .stopped)

/-- PASS-COMPLETE (R77). -/
def execPassComplete (s : State) : Host.Outcome State Fault Refusal :=
  .next (s.whenRunning fun s => if s.passDue then s.completePass else s)

/-- TRAVEL-LATE (R76, R80). -/
def execTravelLate (s : State) : Host.Outcome State Fault Refusal :=
  .next (s.whenRunning fun s => if s.travelDue then s.turnerFault .travelLate else s)

/-- A motion of FAULT arrives (R80). -/
def execTurnerStationFault (s : State) : Host.Outcome State Fault Refusal :=
  .next (s.whenArrives .turner .motion Motion.fault.code fun s => s.motionArrives .fault)

/-- TURNER-RECOVERY (R81). -/
def execTurnerRecovery (s : State) : Host.Outcome State Fault Refusal :=
  .next (s.whenRunning fun s => s.recoveryTest)

/-! ### Kiln Firing and The Peat Fire -/

/-- KILN-BREAK (R95). -/
def execKilnBreak (k : KilnId) (s : State) : Host.Outcome State Fault Refusal :=
  .next (s.whenRunning fun s => if s.breakDue k then s.kilnBreak k false else s)

/-- BREAK-LATE (R96). -/
def execBreakLate (k : KilnId) (s : State) : Host.Outcome State Fault Refusal :=
  .next (s.whenRunning fun s => s.breakLateTest k)

/-- CURING-END (R99). -/
def execCuringEnd (k : KilnId) (s : State) : Host.Outcome State Fault Refusal :=
  .next (s.whenRunning fun s => if s.curingDue k then s.kilnCool k else s)

/-- Whether a kiln is fired: its phases with kiln minutes (R91). -/
def kilnFires : KilnPhase → Bool
  | .freeDry => true | .curingRamp => true | .curingHold => true | .cooling => true
  | .empty => false | .loading => false | .ready => false | .unloading => false | .tripped => false

/-- Whether a kiln has been blind for 11 minutes in a row (R103). -/
def State.standbyDue (s : State) (k : KilnId) : Bool := kilnFires (s.kiln k).phase && decide (11 ≤ (s.kiln k).blindMinutes)

/-- KILN-STANDBY (R103). -/
def execKilnStandby (k : KilnId) (s : State) : Host.Outcome State Fault Refusal :=
  .next (s.whenRunning fun s => if s.standbyDue k then s.setSetpoint k (s.standbySetpoint k) else s)

/-- A Ton arrives (R100). -/
def execKilnTrip (k : KilnId) (ton : Temp) (s : State) : Host.Outcome State Fault Refusal :=
  .next (s.whenArrives (kilnSite k) .ton ton fun s => s.tonArrives k ton)

/-- SPELL-END (R110). -/
def execSpellEnd (s : State) : Host.Outcome State Fault Refusal :=
  .next (s.whenRunning fun s => if s.spellDue then s.peatDecide else s)

/-- Whether a switching fire's holder still requests (R110). -/
def State.switchHeld (s : State) : Bool := s.peat.state == .switching && s.peat.holder.any s.requesting

/-- SWITCHOVER-SETTLE (R111). -/
def execSwitchoverSettle (s : State) : Host.Outcome State Fault Refusal :=
  .next (s.whenRunning fun s => if s.switchHeld then s.settleTest else s)

/-- A fire state of OUT arrives (R112). -/
def execPeatOut (s : State) : Host.Outcome State Fault Refusal :=
  .next (s.whenArrives .peat .fireState Fire.out.code fun s => s.fireArrives .out)

/-- A fire state of BURNING arrives (R112). -/
def execFireBurning (s : State) : Host.Outcome State Fault Refusal :=
  .next (s.whenArrives .peat .fireState Fire.burning.code fun s => s.fireArrives .burning)

/-! ### Transfers -/

/-- TRANSFER-LATE (R18). -/
def execTransferLate (lot : Nat) (s : State) : Host.Outcome State Fault Refusal :=
  .next (s.whenRunning fun s => s.transferLateTest lot)

/-- Whether a lot's transfer goes to OUT. -/
def State.toOut (s : State) (lot : Nat) : Bool :=
  (s.lot? lot).any fun l => l.transfer.any fun t => t.dest == .out

/-- TRANSFER-COMPLETION (R15, R16). -/
def execTransferCompletion (lot : Nat) (s : State) : Host.Outcome State Fault Refusal :=
  .next (s.whenRunning fun s => if s.toOut lot then s else s.transferTest lot)

/-- LOT-OUT-COMPLETION (R15, R17). -/
def execLotOutCompletion (lot : Nat) (s : State) : Host.Outcome State Fault Refusal :=
  .next (s.whenRunning fun s => if s.toOut lot then s.transferTest lot else s)

/-! ### The sampler -/

/-- DRAW-START (R122). -/
def execDrawStart (s : State) : Host.Outcome State Fault Refusal :=
  .next (s.whenRunning fun s => s.samplerTest)

/-- A draw status of DONE arrives (R123). -/
def execDrawDone (s : State) : Host.Outcome State Fault Refusal :=
  .next (s.whenArrives .sampler .drawStatus DrawStatus.done.code fun s => s.statusArrives .done)

/-- A draw status of FAILED arrives (R124). -/
def execDrawFailed (s : State) : Host.Outcome State Fault Refusal :=
  .next (s.whenArrives .sampler .drawStatus DrawStatus.failed.code fun s => s.statusArrives .failed)

/-- DRAW-TIMEOUT (R124). -/
def execDrawTimeout (s : State) : Host.Outcome State Fault Refusal :=
  .next (s.whenRunning fun s => s.drawTimeoutTest)

/-- The mask of positions 1..12 or 13..24. -/
def maskReading (upper : Bool) : Reading := if upper then .presenceHigh else .presenceLow

/-- A presence mask arrives (R116, R118). -/
def execPresenceEvent (upper : Bool) (mask : BitVec 12) (s : State) : Host.Outcome State Fault Refusal :=
  .next (s.whenArrives .sampler (maskReading upper) mask.toNat fun s => s.maskArrives upper mask)

/-- A draw status of IDLE arrives (R126). -/
def execClearingEnd (s : State) : Host.Outcome State Fault Refusal :=
  .next (s.whenArrives .sampler .drawStatus DrawStatus.idle.code fun s => s.statusArrives .idle)

/-! ### The journal's start and its store -/

/-- The start-up scan (R136): the run read from the base record, its open samples reserved for and handed to SMU, RUNNING.
DESIGN CHOICE (log 72): a base record written anew waits in the write path, and the journal is RUNNING before it is stored. -/
def State.scan (s : State) : State :=
  let base := scanBase s.store
  let run := scanRun s.store Config.journalCapacity base.1
  let samples := openSamples run
  let s := s.withJournal { s.journal with oldest := base.1, next := base.1 + run.length, reserved := samples.length }
  let s := if base.2 then s.enqueueWrite (.base base.1) else s
  let s := s.withSampler { s.sampler with openSamples := some samples }
  ((s.setJournalState .running).journalTest).rebuildTest

/-- START-UP-SCAN (R136). -/
def execStartUpScan (s : State) : Host.Outcome State Fault Refusal :=
  .next (s.whenRunning fun s => if s.journal.state = .scanning then s.scan else s)

/-- POT-REBUILD (R137). -/
def execPotRebuild (s : State) : Host.Outcome State Fault Refusal :=
  .next (s.whenRunning fun s => s.rebuildTest)

/-- The store's read-back of a write under way matches (R130). -/
def execEntryStored (s : State) : Host.Outcome State Fault Refusal :=
  .next (s.whenRunning fun s => if s.journal.writing then s.storeFront else s)

/-- A write under way fails (R130). -/
def execStoreWriteFault (s : State) : Host.Outcome State Fault Refusal :=
  .next (s.whenRunning fun s => if s.journal.writing then s.failWrite else s)

/-- Whether a format is erasing: its base record is stored (R135). -/
def State.erasing (s : State) : Bool :=
  s.journal.state == .formatting && s.writePath.isEmpty && s.journal.writing && !s.journal.fault

/-- The end of a format: every entry place is erased and the journal runs (R135). -/
def State.endFormat (s : State) : State :=
  ((s.withStore (Store.eraseUpTo s.store Config.journalCapacity)).withJournal { s.journal with writing := false }).setJournalState
    .running

/-- FORMAT-COMPLETE (R135). -/
def execFormatComplete (s : State) : Host.Outcome State Fault Refusal :=
  .next (s.whenRunning fun s => if s.erasing then s.endFormat else s)

/-! ### The horn -/

/-- HORN-PHASE-END (R145). -/
def execHornPhaseEnd (s : State) : Host.Outcome State Fault Refusal :=
  .next (s.whenRunning fun s => s.hornPhaseEnd)

end Sys2Proof.Machine
end

