-- ==== Sys2Proof/Machine/LinkEvents.lean ====
section
/-! DEFINITION. The meanings of the field link's own events: cycle periods, answers and returning bursts (R148, R151, R154 to
R159). A burst or an answer counts once in the period of the burst it answers. -/

namespace Sys2Proof.Machine

/-- LINK-CYCLE-PERIOD: a period ends and the next begins (R148). -/
def execLinkCyclePeriod (s : State) : Host.Outcome State Fault Refusal :=
  .next (s.whenRunning State.cyclePeriod)

/-- The position and expected offset of the probe that is out, where none has answered it. -/
def State.openProbe? (s : State) : Option (Nat × Int) :=
  match s.link.sent with
  | .probe p e => if s.link.returned || s.link.state != .rollCall then none else some (p, e)
  | .none => none
  | .announcement _ => none
  | .run _ _ => none
  | .tried _ _ _ => none

/-- The answer to a probe; a bad one leaves the probe unanswered (R151). -/
def State.answerArrives (s : State) (a : ProbeAnswer) : State :=
  match s.openProbe? with
  | some (p, e) => if answerGood e a then s.takeAnswer p a else s
  | none => s

/-- ROLL-CALL-ANSWER (R151). -/
def execRollCallAnswer (answer : ProbeAnswer) (s : State) : Host.Outcome State Fault Refusal :=
  .next (s.whenRunning fun s => s.answerArrives answer)

/-- ROLL-CALL-END (R151). -/
def execRollCallEnd (s : State) : Host.Outcome State Fault Refusal :=
  .next (s.whenRunning fun s => if s.link.state = .rollCall ∧ 3 ≤ s.link.unanswered then s.endRollCall else s)

/-- A burst comes back in the period it was sent in: an announcement, a run cycle or a tried cycle. -/
def State.announcementOut (s : State) : Bool :=
  !s.link.returned && match s.link.sent with
    | .announcement _ => true | .none => false | .probe _ _ => false | .run _ _ => false | .tried _ _ _ => false
def State.runOut (s : State) : Bool :=
  !s.link.returned && match s.link.sent with
    | .run _ _ => true | .none => false | .probe _ _ => false | .announcement _ => false | .tried _ _ _ => false
def State.triedOut (s : State) : Bool :=
  !s.link.returned && match s.link.sent with
    | .tried _ _ _ => true | .none => false | .probe _ _ => false | .announcement _ => false | .run _ _ => false

/-- An announcement's burst returns without a mark (R154). -/
def execPlanIntoForce (offset : Int) (headerOk : Bool) (s : State) : Host.Outcome State Fault Refusal :=
  .next (s.whenRunning fun s => if s.announcementOut then s.announcementReturns none offset headerOk else s)

/-- A run cycle's burst returns without a mark (R155, R156). -/
def execRunCycleAccepted (burst : Burst) (order : List Reactor) (s : State) : Host.Outcome State Fault Refusal :=
  .next (s.whenRunning fun s => if s.runOut then s.runReturns none burst order else s)

/-- A burst returns with a short-chain mark (R158). -/
def execShortChain (mark : Nat) (burst : Burst) (order : List Reactor) (s : State) : Host.Outcome State Fault Refusal :=
  .next (s.whenRunning fun s =>
    if s.runOut then s.runReturns (some mark) burst order
    else if s.announcementOut then s.announcementReturns (some mark) burst.offset burst.headerOk
    else s)

/-- STATION-LOST (R159). -/
def execStationLost (position : Nat) (s : State) : Host.Outcome State Fault Refusal :=
  .next (s.whenRunning fun s => s.stationLostTest position)

/-- LINK-DOWN (R157). -/
def execLinkDown (s : State) : Host.Outcome State Fault Refusal :=
  .next (s.whenRunning fun s => if s.linkDownDue then s.goDown else s)

/-- TRIED-CYCLE (R157). -/
def execTriedCycle (s : State) : Host.Outcome State Fault Refusal :=
  .next (s.whenRunning fun s => if s.triedDue then s.sendTried else s)

/-- A tried cycle's burst returns, marked or not (R157). -/
def execTriedCycleAccepted (mark : Option Nat) (burst : Burst) (order : List Reactor) (s : State) :
    Host.Outcome State Fault Refusal :=
  .next (s.whenRunning fun s => if s.triedOut then s.triedReturns mark burst order else s)

end Sys2Proof.Machine
end

