-- ==== Sys2Proof/Machine/Layout.lean ====
section
/-! DEFINITION. The layouts the supervisory computer sees (R170, R171): request payloads read into commands and written from them,
and reply frames. Choices the manual leaves open are log 17. -/

namespace Sys2Proof.Machine

/-! ### Reading fields: each answers what it read and the bytes that follow -/

/-- A number of so many bytes. -/
def readN (size : Nat) (p : List Byte) : Option (Nat × List Byte) :=
  if size ≤ p.length then some (ofBytes (p.take size), p.drop size) else none

/-- A number that may be omitted: all ones then (R170). -/
def readOpt (size : Nat) (p : List Byte) : Option (Option Nat × List Byte) :=
  (readN size p).map fun (n, rest) => (if n + 1 = 256 ^ size then none else some n, rest)

/-- A signed 2-byte number that may be omitted. -/
def readOptInt (p : List Byte) : Option (Option Int × List Byte) :=
  (readOpt 2 p).map fun (n, rest) => (n.map fun n => (BitVec.ofNat 16 n).toInt, rest)

/-- A flag byte, 0 or 1. -/
def readFlag (p : List Byte) : Option (Bool × List Byte) :=
  match readN 1 p with
  | some (0, rest) => some (false, rest)
  | some (1, rest) => some (true, rest)
  | _ => none

/-- A flag that may be omitted. -/
def readOptFlag (p : List Byte) : Option (Option Bool × List Byte) :=
  match readN 1 p with
  | some (0, rest) => some (some false, rest)
  | some (1, rest) => some (some true, rest)
  | some (255, rest) => some (none, rest)
  | _ => none

/-- A plant minute that may be omitted. -/
def readOptMinute (p : List Byte) : Option (Option Minute × List Byte) :=
  (readOpt 4 p).map fun (n, rest) => (n.map (BitVec.ofNat 32), rest)

/-- So many items. -/
def readMany {α : Type} (item : List Byte → Option (α × List Byte)) : Nat → List Byte → Option (List α × List Byte)
  | 0, p => some ([], p)
  | n + 1, p =>
    match item p with
    | none => none
    | some (x, rest) => (readMany item n rest).map fun (xs, rest) => (x :: xs, rest)

/-- A list, preceded by its count. -/
def readList {α : Type} (item : List Byte → Option (α × List Byte)) (p : List Byte) : Option (List α × List Byte) :=
  match readN 1 p with
  | none => none
  | some (n, rest) => readMany item n rest

/-- A payload whose fields have been read holds nothing more. -/
def whole {α : Type} (r : Option (α × List Byte)) : Option α :=
  match r with
  | some (x, []) => some x
  | _ => none

/-! ### Items of lists -/

def readStep (p : List Byte) : Option (StepFields × List Byte) := do
  let (kind, p) ← readN 1 p
  let (minutes, p) ← readN 2 p
  let (litres, p) ← readN 2 p
  let (flag, p) ← readFlag p
  some ({ kind, minutes, litres, flag }, p)

def readChange (p : List Byte) : Option (EnableChange × List Byte) := do
  let (source, p) ← readN 1 p
  let (category, p) ← readN 1 p
  let (enabled, p) ← readFlag p
  some ({ source, category, enabled }, p)

def readSlot (p : List Byte) : Option (SlotFields × List Byte) := do
  let (reading, p) ← readN 1 p
  let (format, p) ← readN 1 p
  some ({ reading, format }, p)

def readStation (p : List Byte) : Option (StationFields × List Byte) := do
  let (position, p) ← readN 2 p
  let (serial, p) ← readN 2 p
  let (ups, p) ← readList readSlot p
  let (downs, p) ← readList (readN 1) p
  some ({ position, serial := BitVec.ofNat 32 serial, ups, downs }, p)

/-! ### Structures -/

/-- The fields of RESTORE-LOT in the order of R3, then the state. -/
def readRestore (p : List Byte) : Option (RestoreFields × List Byte) := do
  let (lot, p) ← readN 2 p
  let (place, p) ← readN 1 p
  let (stage, p) ← readN 1 p
  let (massIn, p) ← readN 2 p
  let (w, p) ← readN 2 p
  let (wcap, p) ← readN 2 p
  let (target, p) ← readN 2 p
  let (minSteep, p) ← readN 4 p
  let (minBox, p) ← readN 4 p
  let (turnCount, p) ← readN 2 p
  let (lastTurn, p) ← readOptMinute p
  let (sinceTurn, p) ← readOpt 4 p
  let (aborted, p) ← readN 2 p
  let (spray, p) ← readN 2 p
  let (wload, p) ← readOpt 2 p
  let (d0, p) ← readOptInt p
  let (q, p) ← readOpt 2 p
  let (breakMinute, p) ← readOptMinute p
  let (forced, p) ← readOptFlag p
  let (peatTarget, p) ← readN 2 p
  let (peatGiven, p) ← readN 2 p
  let (shortfall, p) ← readOpt 2 p
  let (steepOut, p) ← readOpt 4 p
  let (kilnOut, p) ← readOpt 4 p
  let (restored, p) ← readFlag p
  let (state, p) ← readN 1 p
  some ({ lot, place, stage, state, massIn, w, wcap, target, minSteep, minBox, turnCount, lastTurn, sinceTurn, aborted, spray, wload
          d0, q, breakMinute, forced, peatTarget, peatGiven, shortfall, steepOut, kilnOut, restored }, p)

def readBoxFields (p : List Byte) : Option (BoxFields × List Byte) := do
  let (target, p) ← readOpt 2 p
  let (minInterval, p) ← readOpt 2 p
  let (maxInterval, p) ← readOpt 2 p
  let (spreadThreshold, p) ← readOpt 2 p
  let (highMean, p) ← readOptInt p
  let (tset, p) ← readOptInt p
  let (kf, p) ← readOpt 2 p
  let (fbase, p) ← readOpt 2 p
  let (fmin, p) ← readOpt 2 p
  let (fmax, p) ← readOpt 2 p
  some ({ target, minInterval, maxInterval, spreadThreshold, highMean, tset, kf, fbase, fmin, fmax }, p)

/-- So many items as a vector. -/
def readVector {α : Type} (item : List Byte → Option (α × List Byte)) (n : Nat) (p : List Byte) :
    Option (Vector α n × List Byte) :=
  match readMany item n p with
  | none => none
  | some (xs, rest) => if h : xs.length = n then some (⟨xs.toArray, by simpa using h⟩, rest) else none

def readTurnerFields (p : List Byte) : Option (TurnerFields × List Byte) := do
  let (travel, p) ← readOpt 2 p
  let (pass, p) ← readOpt 2 p
  let (spray, p) ← readVector (readOpt 2) 8 p
  some ({ travel, pass, spray }, p)

def readKilnFields (p : List Byte) : Option (KilnFields × List Byte) := do
  let (tfd, p) ← readOptInt p
  let (qb, p) ← readOpt 2 p
  let (nb, p) ← readOpt 2 p
  let (rr, p) ← readOpt 2 p
  let (tc, p) ← readOptInt p
  let (hc, p) ← readOpt 2 p
  let (wfinal, p) ← readOpt 2 p
  let (wend, p) ← readOpt 2 p
  let (tcool, p) ← readOptInt p
  let (maxFreeDry, p) ← readOpt 2 p
  let (tmax, p) ← readOptInt p
  some ({ tfd, qb, nb, rr, tc, hc, wfinal, wend, tcool, maxFreeDry, tmax }, p)

def readHornFields (p : List Byte) : Option (HornFields × List Byte) := do
  let (hon, p) ← readOpt 2 p
  let (hoff, p) ← readOpt 2 p
  let (enables, p) ← readVector readOptFlag 4 p
  some ({ hon, hoff, enables }, p)

/-- LOT-QUERY's choice: 1 a lot number, 2 a place, each in 2 bytes (R171). -/
def readLotOrPlace (p : List Byte) : Option (LotOrPlace × List Byte) := do
  let (choice, p) ← readN 1 p
  let (n, p) ← readN 2 p
  if choice = 1 then some (.lot n, p) else if choice = 2 then some (.place n, p) else none

/-- ALARM-ACK's choice: 1 ALL, 2 a source and a kind of 1 byte each, the 2 bytes of the larger (R171). With ALL the 2 bytes may hold
anything and are not used, the model's choice (log 17). -/
def readAck (p : List Byte) : Option (AckTarget × List Byte) := do
  let (choice, p) ← readN 1 p
  let (source, p) ← readN 1 p
  let (kind, p) ← readN 1 p
  if choice = 1 then some (.all, p) else if choice = 2 then some (.one source kind, p) else none

/-! ### Requests by chapter -/

def readLotsKind (kind : Nat) (p : List Byte) : Option (Instr × List Byte) :=
  match kind with
  | 0x10 => do
    let (n, p) ← readN 4 p
    some (.setClock (BitVec.ofNat 32 n), p)
  | 0x11 => do
    let (lot, p) ← readN 2 p
    let (place, p) ← readN 1 p
    let (massIn, p) ← readN 2 p
    let (w, p) ← readN 2 p
    let (wcap, p) ← readOpt 2 p
    let (target, p) ← readOpt 2 p
    let (peat, p) ← readOpt 2 p
    some (.lotIn lot place massIn w wcap target peat, p)
  | 0x12 => (readRestore p).map fun (f, p) => (.restoreLot f, p)
  | 0x13 => do
    let (lot, p) ← readN 2 p
    let (dest, p) ← readN 1 p
    let (force, p) ← readFlag p
    let (outMass, p) ← readOpt 2 p
    some (.transfer lot dest force outMass, p)
  | 0x14 => (readN 2 p).map fun (n, p) => (.transferAbort n, p)
  | 0x15 => (readN 2 p).map fun (n, p) => (.transferSettings n, p)
  | 0x16 => (readLotOrPlace p).map fun (x, p) => (.lotQuery x, p)
  | 0x17 => some (.lotList, p)
  | _ => none

def readSteepKind (kind : Nat) (p : List Byte) : Option (Instr × List Byte) :=
  match kind with
  | 0x18 => do
    let (place, p) ← readN 1 p
    let (steps, p) ← readList readStep p
    let (early, p) ← readFlag p
    let (rest, p) ← readFlag p
    some (.steepProgram place steps early rest, p)
  | 0x19 => do
    let (place, p) ← readN 1 p
    let (n, p) ← readN 2 p
    some (.steepSettings place n, p)
  | 0x1A => (readN 1 p).map fun (n, p) => (.steepStart n, p)
  | 0x1B => (readN 1 p).map fun (n, p) => (.steepHalt n, p)
  | 0x1C => (readN 1 p).map fun (n, p) => (.steepResume n, p)
  | 0x1D => (readN 1 p).map fun (n, p) => (.steepQuery n, p)
  | 0x20 => do
    let (aw, p) ← readOpt 4 p
    let (pw, p) ← readOpt 2 p
    some (.waterSettings aw pw, p)
  | 0x21 => some (.waterQuery, p)
  | _ => none

def readBoxKind (kind : Nat) (p : List Byte) : Option (Instr × List Byte) :=
  match kind with
  | 0x28 => do
    let (place, p) ← readN 1 p
    let (zones, p) ← readList (readN 2) p
    some (.zoneMask place zones, p)
  | 0x29 => do
    let (place, p) ← readN 1 p
    let (f, p) ← readBoxFields p
    some (.boxSettings place f, p)
  | 0x2A => do
    let (place, p) ← readN 1 p
    let (demand, p) ← readOpt 2 p
    some (.boxHalt place demand, p)
  | 0x2B => (readN 1 p).map fun (n, p) => (.boxResume n, p)
  | 0x2C => (readN 1 p).map fun (n, p) => (.boxQuery n, p)
  | 0x30 => (readN 1 p).map fun (n, p) => (.turnNow n, p)
  | 0x31 => (readN 1 p).map fun (n, p) => (.turnCancel n, p)
  | 0x32 => (readTurnerFields p).map fun (f, p) => (.turnerSettings f, p)
  | 0x33 => some (.turnerQuery, p)
  | _ => none

def readKilnKind (kind : Nat) (p : List Byte) : Option (Instr × List Byte) :=
  match kind with
  | 0x38 => do
    let (place, p) ← readN 1 p
    let (f, p) ← readKilnFields p
    some (.kilnProgram place f, p)
  | 0x39 => do
    let (place, p) ← readN 1 p
    let (phase, p) ← readN 1 p
    some (.kilnForcePhase place phase, p)
  | 0x3A => (readN 1 p).map fun (n, p) => (.kilnTripClear n, p)
  | 0x3B => (readN 1 p).map fun (n, p) => (.kilnQuery n, p)
  | 0x40 => do
    let (spell, p) ← readOpt 2 p
    let (switchover, p) ← readOpt 2 p
    let (cutoff, p) ← readOpt 2 p
    some (.peatSettings spell switchover cutoff, p)
  | 0x41 => some (.peatQuery, p)
  | _ => none

def readExciseKind (kind : Nat) (p : List Byte) : Option (Instr × List Byte) :=
  match kind with
  | 0x48 => (readN 1 p).map fun (n, p) => (.samplerMode n, p)
  | 0x49 => some (.samplerQuery, p)
  | 0x4A => do
    let (start, p) ← readN 4 p
    let (count, p) ← readN 1 p
    some (.journalRead start count, p)
  | 0x4B => (readN 4 p).map fun (n, p) => (.journalRelease n, p)
  | 0x4C => (readN 4 p).map fun (n, p) => (.journalMark (BitVec.ofNat 32 n), p)
  | 0x4D => some (.journalFormat, p)
  | 0x50 => (readList readChange p).map fun (xs, p) => (.alarmEnables xs, p)
  | 0x51 => (readOpt 1 p).map fun (x, p) => (.alarmEnablesQuery x, p)
  | 0x52 => (readAck p).map fun (x, p) => (.alarmAck x, p)
  | 0x53 => (readN 2 p).map fun (n, p) => (.alarmQuery n, p)
  | 0x54 => (readHornFields p).map fun (f, p) => (.hornSettings f, p)
  | _ => none

def readLinkKind (kind : Nat) (p : List Byte) : Option (Instr × List Byte) :=
  match kind with
  | 0x58 => some (.rollCall, p)
  | 0x59 => do
    let (site, p) ← readN 1 p
    let (serial, p) ← readOpt 2 p
    some (.bindStation site (serial.map (BitVec.ofNat 32)), p)
  | 0x5A => (readList readStation p).map fun (xs, p) => (.slotPlan xs, p)
  | 0x5B => some (.linkRestart, p)
  | 0x5C => (readFlag p).map fun (x, p) => (.linkSettings x, p)
  | 0x5D => (readN 2 p).map fun (n, p) => (.linkQuery n, p)
  | 0x60 => some (.nextNotice, p)
  | 0x61 => (readVector readFlag 7 p).map fun (x, p) => (.setNoticeMask x, p)
  | 0x62 => some (.status, p)
  | 0x63 => some (.identify, p)
  | 0x64 => some (.saveSettings, p)
  | 0x65 => some (.restart, p)
  | _ => none

/-- The request a kind and a payload spell; none where the kind names no request or the payload does not fit it (R163, R170). -/
def requestOf? (kind : Nat) (payload : List Byte) : Option Instr :=
  whole <|
    if kind < 0x18 then readLotsKind kind payload
    else if kind < 0x28 then readSteepKind kind payload
    else if kind < 0x38 then readBoxKind kind payload
    else if kind < 0x48 then readKilnKind kind payload
    else if kind < 0x58 then readExciseKind kind payload
    else readLinkKind kind payload

/-- The kinds that name a request (R170). -/
def requestKinds : List Nat :=
  (List.range 8).map (0x10 + ·) ++ (List.range 6).map (0x18 + ·) ++ (List.range 2).map (0x20 + ·) ++
  (List.range 5).map (0x28 + ·) ++ (List.range 4).map (0x30 + ·) ++ (List.range 4).map (0x38 + ·) ++
  (List.range 2).map (0x40 + ·) ++ (List.range 6).map (0x48 + ·) ++ (List.range 5).map (0x50 + ·) ++
  (List.range 6).map (0x58 + ·) ++ (List.range 6).map (0x60 + ·)

/-- Whether a kind names a request. -/
def namesRequest (kind : Nat) : Bool := requestKinds.contains kind

/-! ### Writing requests (R171) -/

/-- A number that may be omitted. -/
def putOpt (size : Nat) (x : Option Nat) : List Byte := toBytes size (x.getD (256 ^ size - 1))

def putFlag (x : Bool) : List Byte := toBytes 1 (if x then 1 else 0)

def putOptFlag (x : Option Bool) : List Byte := toBytes 1 (x.elim 255 fun x => if x then 1 else 0)

def putOptMinute (x : Option Minute) : List Byte := putOpt 4 (x.map BitVec.toNat)

def putOptInt (x : Option Int) : List Byte := putOpt 2 (x.map fun z => (BitVec.ofInt 16 z).toNat)

/-- A list, preceded by its count. -/
def putList {α : Type} (item : α → List Byte) (xs : List α) : List Byte := toBytes 1 xs.length ++ xs.flatMap item

def putStep (f : StepFields) : List Byte := toBytes 1 f.kind ++ toBytes 2 f.minutes ++ toBytes 2 f.litres ++ putFlag f.flag

def putChange (c : EnableChange) : List Byte := toBytes 1 c.source ++ toBytes 1 c.category ++ putFlag c.enabled

def putSlot (x : SlotFields) : List Byte := toBytes 1 x.reading ++ toBytes 1 x.format

def putStation (t : StationFields) : List Byte :=
  toBytes 2 t.position ++ toBytes 2 t.serial.toNat ++ putList putSlot t.ups ++ putList (toBytes 1) t.downs

def putRestore (f : RestoreFields) : List Byte :=
  toBytes 2 f.lot ++ toBytes 1 f.place ++ toBytes 1 f.stage ++ toBytes 2 f.massIn ++ toBytes 2 f.w ++
  toBytes 2 f.wcap ++ toBytes 2 f.target ++ toBytes 4 f.minSteep ++ toBytes 4 f.minBox ++ toBytes 2 f.turnCount ++
  putOptMinute f.lastTurn ++ putOpt 4 f.sinceTurn ++ toBytes 2 f.aborted ++ toBytes 2 f.spray ++ putOpt 2 f.wload ++
  putOptInt f.d0 ++ putOpt 2 f.q ++ putOptMinute f.breakMinute ++ putOptFlag f.forced ++ toBytes 2 f.peatTarget ++
  toBytes 2 f.peatGiven ++ putOpt 2 f.shortfall ++ putOpt 4 f.steepOut ++ putOpt 4 f.kilnOut ++ putFlag f.restored ++
  toBytes 1 f.state

def putBoxFields (f : BoxFields) : List Byte :=
  putOpt 2 f.target ++ putOpt 2 f.minInterval ++ putOpt 2 f.maxInterval ++ putOpt 2 f.spreadThreshold ++ putOptInt f.highMean ++
  putOptInt f.tset ++ putOpt 2 f.kf ++ putOpt 2 f.fbase ++ putOpt 2 f.fmin ++ putOpt 2 f.fmax

def putTurnerFields (f : TurnerFields) : List Byte :=
  putOpt 2 f.travel ++ putOpt 2 f.pass ++ f.spray.toList.flatMap (putOpt 2)

def putKilnFields (f : KilnFields) : List Byte :=
  putOptInt f.tfd ++ putOpt 2 f.qb ++ putOpt 2 f.nb ++ putOpt 2 f.rr ++ putOptInt f.tc ++ putOpt 2 f.hc ++ putOpt 2 f.wfinal ++
  putOpt 2 f.wend ++ putOptInt f.tcool ++ putOpt 2 f.maxFreeDry ++ putOptInt f.tmax

def putHornFields (f : HornFields) : List Byte := putOpt 2 f.hon ++ putOpt 2 f.hoff ++ f.enables.toList.flatMap putOptFlag

def putLotOrPlace : LotOrPlace → List Byte
  | .lot n => toBytes 1 1 ++ toBytes 2 n
  | .place n => toBytes 1 2 ++ toBytes 2 n

/-- ALARM-ACK's choice as it is sent: with ALL the 2 bytes are 0, the model's choice (log 17). -/
def putAck : AckTarget → List Byte
  | .all => toBytes 1 1 ++ toBytes 2 0
  | .one source kind => toBytes 1 2 ++ toBytes 1 source ++ toBytes 1 kind

/-- The kind and the payload of a request; none for what is no request (R170, R171). -/
def frameOf? : Instr → Option (Nat × List Byte)
  | .setClock count => some (0x10, toBytes 4 count.toNat)
  | .lotIn lot place massIn w wcap target peat =>
    some (0x11, toBytes 2 lot ++ toBytes 1 place ++ toBytes 2 massIn ++ toBytes 2 w ++ putOpt 2 wcap ++ putOpt 2 target ++
      putOpt 2 peat)
  | .restoreLot f => some (0x12, putRestore f)
  | .transfer lot dest force outMass => some (0x13, toBytes 2 lot ++ toBytes 1 dest ++ putFlag force ++ putOpt 2 outMass)
  | .transferAbort lot => some (0x14, toBytes 2 lot)
  | .transferSettings n => some (0x15, toBytes 2 n)
  | .lotQuery x => some (0x16, putLotOrPlace x)
  | .lotList => some (0x17, [])
  | .steepProgram place steps early rest =>
    some (0x18, toBytes 1 place ++ putList putStep steps ++ putFlag early ++ putFlag rest)
  | .steepSettings place n => some (0x19, toBytes 1 place ++ toBytes 2 n)
  | .steepStart place => some (0x1A, toBytes 1 place)
  | .steepHalt place => some (0x1B, toBytes 1 place)
  | .steepResume place => some (0x1C, toBytes 1 place)
  | .steepQuery place => some (0x1D, toBytes 1 place)
  | .waterSettings aw pw => some (0x20, putOpt 4 aw ++ putOpt 2 pw)
  | .waterQuery => some (0x21, [])
  | .zoneMask place zones => some (0x28, toBytes 1 place ++ putList (toBytes 2) zones)
  | .boxSettings place f => some (0x29, toBytes 1 place ++ putBoxFields f)
  | .boxHalt place demand => some (0x2A, toBytes 1 place ++ putOpt 2 demand)
  | .boxResume place => some (0x2B, toBytes 1 place)
  | .boxQuery place => some (0x2C, toBytes 1 place)
  | .turnNow place => some (0x30, toBytes 1 place)
  | .turnCancel place => some (0x31, toBytes 1 place)
  | .turnerSettings f => some (0x32, putTurnerFields f)
  | .turnerQuery => some (0x33, [])
  | .kilnProgram place f => some (0x38, toBytes 1 place ++ putKilnFields f)
  | .kilnForcePhase place phase => some (0x39, toBytes 1 place ++ toBytes 1 phase)
  | .kilnTripClear place => some (0x3A, toBytes 1 place)
  | .kilnQuery place => some (0x3B, toBytes 1 place)
  | .peatSettings a b c => some (0x40, putOpt 2 a ++ putOpt 2 b ++ putOpt 2 c)
  | .peatQuery => some (0x41, [])
  | .samplerMode n => some (0x48, toBytes 1 n)
  | .samplerQuery => some (0x49, [])
  | .journalRead start count => some (0x4A, toBytes 4 start ++ toBytes 1 count)
  | .journalRelease n => some (0x4B, toBytes 4 n)
  | .journalMark reference => some (0x4C, toBytes 4 reference.toNat)
  | .journalFormat => some (0x4D, [])
  | .alarmEnables changes => some (0x50, putList putChange changes)
  | .alarmEnablesQuery source => some (0x51, putOpt 1 source)
  | .alarmAck x => some (0x52, putAck x)
  | .alarmQuery start => some (0x53, toBytes 2 start)
  | .hornSettings f => some (0x54, putHornFields f)
  | .rollCall => some (0x58, [])
  | .bindStation site serial => some (0x59, toBytes 1 site ++ putOpt 2 (serial.map BitVec.toNat))
  | .slotPlan stations => some (0x5A, putList putStation stations)
  | .linkRestart => some (0x5B, [])
  | .linkSettings x => some (0x5C, putFlag x)
  | .linkQuery start => some (0x5D, toBytes 2 start)
  | .nextNotice => some (0x60, [])
  | .setNoticeMask x => some (0x61, x.toList.flatMap putFlag)
  | .status => some (0x62, [])
  | .identify => some (0x63, [])
  | .saveSettings => some (0x64, [])
  | .restart => some (0x65, [])
  | .powerOn .. => none | .resetInput .. => none | .plantMinute .. => none | .immersionEnd .. => none
  | .airRestEnd .. => none | .fillTimeout .. => none | .fillDelivered .. => none | .immersionStart .. => none
  | .drainEnd .. => none | .roundStart => none | .boxMinutesTarget .. => none | .takeHead => none | .travelEnd .. => none
  | .passComplete => none | .travelLate => none | .turnerStationFault => none | .turnerRecovery => none
  | .kilnBreak .. => none | .breakLate .. => none | .curingEnd .. => none | .kilnStandby .. => none | .kilnTrip .. => none
  | .spellEnd => none | .switchoverSettle => none | .peatOut => none | .fireBurning => none | .transferLate .. => none
  | .transferCompletion .. => none | .lotOutCompletion .. => none | .drawStart => none | .drawDone => none
  | .drawFailed => none | .drawTimeout => none | .presenceEvent .. => none | .clearingEnd => none | .startUpScan => none
  | .potRebuild => none | .entryStored => none | .storeWriteFault => none | .formatComplete => none | .hornPhaseEnd => none
  | .linkCyclePeriod => none | .rollCallAnswer .. => none | .rollCallEnd => none | .planIntoForce .. => none
  | .runCycleAccepted .. => none | .shortChain .. => none | .stationLost .. => none | .linkDown => none
  | .triedCycle => none | .triedCycleAccepted .. => none | .badFrame => none | .byteGapTimeout => none
  | .frameWhileAnswering => none | .unknownKindRequest .. => none | .replySent => none | .saveDone .. => none
  | .restartReset .. => none | .powerLoss .. => none | .resetInputRelease .. => none | .startByteReceived .. => none

/-! ### Frames (R170) -/

/-- What a frame's check covers: its length, kind and payload. -/
def frameBody (kind : Byte) (payload : List Byte) : List Byte := toBytes 1 payload.length ++ kind :: payload

/-- A frame: the start byte, the body and its check. -/
def frame (kind : Byte) (payload : List Byte) : List Byte := 0xA5#8 :: frameBody kind payload ++ checkBytes (frameBody kind payload)

/-- A reply's field as bytes; a quantity that does not fit its size is open (log 5). -/
def Fld.bytes : Fld → List Byte
  | .b n => toBytes 1 (if n < 256 then n else Config.openWire 1 n)
  | .h z => toBytes 2 (if -32768 ≤ z ∧ z ≤ 65535 then (z % 65536).toNat else Config.openWire 2 z)
  | .w n => toBytes 4 (if n < 4294967296 then n else Config.openWire 4 n)

/-- A reply's payload (R170). -/
def Reply.payload : Reply → List Byte
  | .done fields => 0#8 :: fields.flatMap Fld.bytes
  | .refused r => [1#8, BitVec.ofNat 8 r.code]

/-- The kind of a reply: that of its request with 0x80 added, or the same where it was 0x80 or above (R170). -/
def replyKind (kind : Byte) : Byte := if kind.toNat < 0x80 then kind + 0x80#8 else kind

/-- The frame of the reply being sent (R163, R170). -/
def State.replyFrame? (s : State) : Option (List Byte) :=
  s.port.reply.map fun x => frame (replyKind x.1) x.2.payload

end Sys2Proof.Machine
end

