-- ==== Sys2Proof/Machine/Frames.lean ====
section
/-! DEFINITION. Frames at the port (R162, R163): the serving of a complete frame, the receiver byte by byte, and the meanings of the
port's own events. -/

namespace Sys2Proof.Machine

/-! ### Serving a frame (R163) -/

/-- A request handed to its owning block (R163, 11.8). What is no request is answered MALFORMED. -/
def State.serve (s : State) : Instr → Answer
  | .setClock count => reqSetClock count s
  | .lotIn lot place massIn w wcap target peat => reqLotIn lot place massIn w wcap target peat s
  | .restoreLot fields => reqRestoreLot fields s
  | .transfer lot dest force outMass => reqTransfer lot dest force outMass s
  | .transferAbort lot => reqTransferAbort lot s
  | .transferSettings timeout => reqTransferSettings timeout s
  | .lotQuery what => reqLotQuery what s
  | .lotList => reqLotList s
  | .steepProgram place steps early rest => reqSteepProgram place steps early rest s
  | .steepSettings place timeout => reqSteepSettings place timeout s
  | .steepStart place => reqSteepStart place s
  | .steepHalt place => reqSteepHalt place s
  | .steepResume place => reqSteepResume place s
  | .steepQuery place => reqSteepQuery place s
  | .waterSettings allowance period => reqWaterSettings allowance period s
  | .waterQuery => reqWaterQuery s
  | .zoneMask place zones => reqZoneMask place zones s
  | .boxSettings place fields => reqBoxSettings place fields s
  | .boxHalt place demand => reqBoxHalt place demand s
  | .boxResume place => reqBoxResume place s
  | .boxQuery place => reqBoxQuery place s
  | .turnNow place => reqTurnNow place s
  | .turnCancel place => reqTurnCancel place s
  | .turnerSettings fields => reqTurnerSettings fields s
  | .turnerQuery => reqTurnerQuery s
  | .kilnProgram place fields => reqKilnProgram place fields s
  | .kilnForcePhase place phase => reqKilnForcePhase place phase s
  | .kilnTripClear place => reqKilnTripClear place s
  | .kilnQuery place => reqKilnQuery place s
  | .peatSettings spell switchover cutoff => reqPeatSettings spell switchover cutoff s
  | .peatQuery => reqPeatQuery s
  | .samplerMode mode => reqSamplerMode mode s
  | .samplerQuery => reqSamplerQuery s
  | .journalRead start count => reqJournalRead start count s
  | .journalRelease through => reqJournalRelease through s
  | .journalMark reference => reqJournalMark reference s
  | .journalFormat => reqJournalFormat s
  | .alarmEnables changes => reqAlarmEnables changes s
  | .alarmEnablesQuery source => reqAlarmEnablesQuery source s
  | .alarmAck what => reqAlarmAck what s
  | .alarmQuery start => reqAlarmQuery start s
  | .hornSettings fields => reqHornSettings fields s
  | .rollCall => reqRollCall s
  | .bindStation site serial => reqBindStation site serial s
  | .slotPlan stations => reqSlotPlan stations s
  | .linkRestart => reqLinkRestart s
  | .linkSettings autoRollCall => reqLinkSettings autoRollCall s
  | .linkQuery start => reqLinkQuery start s
  | .nextNotice => reqNextNotice s
  | .setNoticeMask enables => reqSetNoticeMask enables s
  | .status => reqStatus s
  | .identify => reqIdentify s
  | .saveSettings => reqSaveSettings s
  | .restart => reqRestart s
  | _ => s.refuse .malformed

/-- A complete frame, its check matching, is handled (R163): MALFORMED where its kind and payload spell no request. -/
def State.takeFrame (s : State) (kind : Byte) (payload : List Byte) : State :=
  s.takeRequest kind fun s =>
    match requestOf? kind.toNat payload with
    | some i => s.serve i
    | none => s.refuse .malformed

/-! ### The receiver (R162) -/

/-- Whether bytes are received: frames are taken and the transmitter does not drive the line (R162, R169). -/
def State.listens (s : State) : Bool := s.takesFrames && decide (s.port.state = .ready)

/-- The receiver back in HUNT with nothing gathered. -/
def State.hunt (s : State) : State :=
  s.withPort (State.hunted s.port)

/-- The check of the gathered frame has arrived whole: the frame is complete, or bad (R162). -/
def State.endFrame (s : State) (check : List Byte) : State :=
  let kind := s.port.rxKind
  let payload := s.port.rxPayload
  if check = checkBytes (BitVec.ofNat 8 s.port.rxLength :: kind :: payload) then s.hunt.takeFrame kind payload else s.badFrame

/-- A byte arrives at the receiver (R162). -/
def State.takeByte (s : State) (b : Byte) : State :=
  match s.port.rx with
  | .hunt => if b = 0xA5#8 then s.withPort { s.port with rx := .length } else s
  | .length =>
    if 240 < b.toNat then s.badFrame else s.withPort { s.port with rx := .kind, rxLength := b.toNat }
  | .kind =>
    s.withPort { s.port with
      rx := if s.port.rxLength = 0 then .check else .payload, rxKind := b, rxPayload := [], rxCheck := [] }
  | .payload =>
    let gathered := s.port.rxPayload ++ [b]
    s.withPort { s.port with
      rx := if s.port.rxLength ≤ gathered.length then .check else .payload, rxPayload := gathered }
  | .check =>
    if s.port.rxCheck.isEmpty then s.withPort { s.port with rxCheck := [b] } else s.endFrame (s.port.rxCheck ++ [b])

/-- A byte on the line: received where the port listens (R162). -/
def State.feedByte (s : State) (b : Byte) : State := if s.listens then s.takeByte b else s

/-! ### The meanings -/

/-- A start byte arrives in HUNT, and later bytes behind it with no gap above 5 ms (R162). -/
def execStartByteReceived (later : List Byte) (s : State) : Host.Outcome State Fault Refusal :=
  .next ((0xA5#8 :: later).foldl State.feedByte s)

/-- A frame is discarded as bad (R162). -/
def execBadFrame (s : State) : Host.Outcome State Fault Refusal :=
  .next (if s.listens then s.badFrame else s)

/-- A gap of more than 5 ms outside HUNT discards the frame (R162). -/
def execByteGapTimeout (s : State) : Host.Outcome State Fault Refusal :=
  .next (if s.listens && s.port.rx != .hunt then s.badFrame else s)

/-- A frame completes while the port is ANSWERING (R163). -/
def execFrameWhileAnswering (s : State) : Host.Outcome State Fault Refusal :=
  .next (if s.takesFrames && s.port.state == .answering then s.discardFrame else s)

/-- A complete frame whose kind names no request (R163). -/
def execUnknownKindRequest (kind : Byte) (s : State) : Host.Outcome State Fault Refusal :=
  .next (if namesRequest kind.toNat then s else s.takeRequest kind fun s => s.refuse .malformed)

/-- The last byte of the reply has been sent (R163, R169). -/
def execReplySent (s : State) : Host.Outcome State Fault Refusal :=
  .next (s.whenRunning State.replySent)

/-- A save has ended (R168): save-busy is cleared, defaults-in-use with an OK, and SAVE-DONE is queued. -/
def State.endSave (s : State) (result : SaveEnd) : State :=
  match result with
  | .ok =>
    ((s.withEeprom (s.eepromAfter .written)).withPort { s.port with saving := none, defaultsInUse := false }).notify (.saveDone true)
  | .failed left =>
    ((s.withEeprom (s.eepromAfter left)).withPort { s.port with saving := none }).notify (.saveDone false)

/-- SAVE-DONE (R168). -/
def execSaveDone (result : SaveEnd) (s : State) : Host.Outcome State Fault Refusal :=
  .next (s.whenRunning fun s => if s.saveBusy then s.endSave result else s)

end Sys2Proof.Machine
end

