-- ==== Sys2Proof/Machine/Dispatch.lean ====
section
/-! DEFINITION. The dispatch of commands: one arm per row of spec/opcode_table.json, each one call of its meaning. -/

namespace Sys2Proof.Machine

def exec (i : Instr) (s : State) : Host.Outcome State Fault Refusal :=
  match i with
  | .powerOn eepromAnswers => Sys2Proof.Machine.execPowerOn eepromAnswers s
  | .resetInput left eepromAnswers => Sys2Proof.Machine.execResetInput left eepromAnswers s
  | .plantMinute order => Sys2Proof.Machine.execPlantMinute order s
  | .immersionEnd v => Sys2Proof.Machine.execImmersionEnd v s
  | .airRestEnd v => Sys2Proof.Machine.execAirRestEnd v s
  | .fillTimeout v => Sys2Proof.Machine.execFillTimeout v s
  | .fillDelivered v reading => Sys2Proof.Machine.execFillDelivered v reading s
  | .immersionStart v => Sys2Proof.Machine.execImmersionStart v s
  | .drainEnd v level => Sys2Proof.Machine.execDrainEnd v level s
  | .roundStart => Sys2Proof.Machine.execRoundStart s
  | .boxMinutesTarget b => Sys2Proof.Machine.execBoxMinutesTarget b s
  | .takeHead => Sys2Proof.Machine.execTakeHead s
  | .travelEnd position => Sys2Proof.Machine.execTravelEnd position s
  | .passComplete => Sys2Proof.Machine.execPassComplete s
  | .travelLate => Sys2Proof.Machine.execTravelLate s
  | .turnerStationFault => Sys2Proof.Machine.execTurnerStationFault s
  | .turnerRecovery => Sys2Proof.Machine.execTurnerRecovery s
  | .kilnBreak k => Sys2Proof.Machine.execKilnBreak k s
  | .breakLate k => Sys2Proof.Machine.execBreakLate k s
  | .curingEnd k => Sys2Proof.Machine.execCuringEnd k s
  | .kilnStandby k => Sys2Proof.Machine.execKilnStandby k s
  | .kilnTrip k ton => Sys2Proof.Machine.execKilnTrip k ton s
  | .spellEnd => Sys2Proof.Machine.execSpellEnd s
  | .switchoverSettle => Sys2Proof.Machine.execSwitchoverSettle s
  | .peatOut => Sys2Proof.Machine.execPeatOut s
  | .fireBurning => Sys2Proof.Machine.execFireBurning s
  | .transferLate lot => Sys2Proof.Machine.execTransferLate lot s
  | .transferCompletion lot => Sys2Proof.Machine.execTransferCompletion lot s
  | .lotOutCompletion lot => Sys2Proof.Machine.execLotOutCompletion lot s
  | .drawStart => Sys2Proof.Machine.execDrawStart s
  | .drawDone => Sys2Proof.Machine.execDrawDone s
  | .drawFailed => Sys2Proof.Machine.execDrawFailed s
  | .drawTimeout => Sys2Proof.Machine.execDrawTimeout s
  | .presenceEvent upper mask => Sys2Proof.Machine.execPresenceEvent upper mask s
  | .clearingEnd => Sys2Proof.Machine.execClearingEnd s
  | .startUpScan => Sys2Proof.Machine.execStartUpScan s
  | .potRebuild => Sys2Proof.Machine.execPotRebuild s
  | .entryStored => Sys2Proof.Machine.execEntryStored s
  | .storeWriteFault => Sys2Proof.Machine.execStoreWriteFault s
  | .formatComplete => Sys2Proof.Machine.execFormatComplete s
  | .hornPhaseEnd => Sys2Proof.Machine.execHornPhaseEnd s
  | .linkCyclePeriod => Sys2Proof.Machine.execLinkCyclePeriod s
  | .rollCallAnswer answer => Sys2Proof.Machine.execRollCallAnswer answer s
  | .rollCallEnd => Sys2Proof.Machine.execRollCallEnd s
  | .planIntoForce offset headerOk => Sys2Proof.Machine.execPlanIntoForce offset headerOk s
  | .runCycleAccepted burst order => Sys2Proof.Machine.execRunCycleAccepted burst order s
  | .shortChain mark burst order => Sys2Proof.Machine.execShortChain mark burst order s
  | .stationLost position => Sys2Proof.Machine.execStationLost position s
  | .linkDown => Sys2Proof.Machine.execLinkDown s
  | .triedCycle => Sys2Proof.Machine.execTriedCycle s
  | .triedCycleAccepted mark burst order => Sys2Proof.Machine.execTriedCycleAccepted mark burst order s
  | .badFrame => Sys2Proof.Machine.execBadFrame s
  | .byteGapTimeout => Sys2Proof.Machine.execByteGapTimeout s
  | .frameWhileAnswering => Sys2Proof.Machine.execFrameWhileAnswering s
  | .unknownKindRequest kind => Sys2Proof.Machine.execUnknownKindRequest kind s
  | .replySent => Sys2Proof.Machine.execReplySent s
  | .setClock count => Sys2Proof.Machine.execSetClock count s
  | .lotIn lot place massIn w wcap target peat => Sys2Proof.Machine.execLotIn lot place massIn w wcap target peat s
  | .restoreLot fields => Sys2Proof.Machine.execRestoreLot fields s
  | .transfer lot dest force outMass => Sys2Proof.Machine.execTransfer lot dest force outMass s
  | .transferAbort lot => Sys2Proof.Machine.execTransferAbort lot s
  | .transferSettings timeout => Sys2Proof.Machine.execTransferSettings timeout s
  | .lotQuery what => Sys2Proof.Machine.execLotQuery what s
  | .lotList => Sys2Proof.Machine.execLotList s
  | .steepProgram place steps earlyFinish endWithRest => Sys2Proof.Machine.execSteepProgram place steps earlyFinish endWithRest s
  | .steepSettings place timeout => Sys2Proof.Machine.execSteepSettings place timeout s
  | .steepStart place => Sys2Proof.Machine.execSteepStart place s
  | .steepHalt place => Sys2Proof.Machine.execSteepHalt place s
  | .steepResume place => Sys2Proof.Machine.execSteepResume place s
  | .steepQuery place => Sys2Proof.Machine.execSteepQuery place s
  | .waterSettings allowance period => Sys2Proof.Machine.execWaterSettings allowance period s
  | .waterQuery => Sys2Proof.Machine.execWaterQuery s
  | .zoneMask place zones => Sys2Proof.Machine.execZoneMask place zones s
  | .boxSettings place fields => Sys2Proof.Machine.execBoxSettings place fields s
  | .boxHalt place demand => Sys2Proof.Machine.execBoxHalt place demand s
  | .boxResume place => Sys2Proof.Machine.execBoxResume place s
  | .boxQuery place => Sys2Proof.Machine.execBoxQuery place s
  | .turnNow place => Sys2Proof.Machine.execTurnNow place s
  | .turnCancel place => Sys2Proof.Machine.execTurnCancel place s
  | .turnerSettings fields => Sys2Proof.Machine.execTurnerSettings fields s
  | .turnerQuery => Sys2Proof.Machine.execTurnerQuery s
  | .kilnProgram place fields => Sys2Proof.Machine.execKilnProgram place fields s
  | .kilnForcePhase place phase => Sys2Proof.Machine.execKilnForcePhase place phase s
  | .kilnTripClear place => Sys2Proof.Machine.execKilnTripClear place s
  | .kilnQuery place => Sys2Proof.Machine.execKilnQuery place s
  | .peatSettings spell switchover cutoff => Sys2Proof.Machine.execPeatSettings spell switchover cutoff s
  | .peatQuery => Sys2Proof.Machine.execPeatQuery s
  | .samplerMode mode => Sys2Proof.Machine.execSamplerMode mode s
  | .samplerQuery => Sys2Proof.Machine.execSamplerQuery s
  | .journalRead start count => Sys2Proof.Machine.execJournalRead start count s
  | .journalRelease through => Sys2Proof.Machine.execJournalRelease through s
  | .journalMark reference => Sys2Proof.Machine.execJournalMark reference s
  | .journalFormat => Sys2Proof.Machine.execJournalFormat s
  | .alarmEnables changes => Sys2Proof.Machine.execAlarmEnables changes s
  | .alarmEnablesQuery source => Sys2Proof.Machine.execAlarmEnablesQuery source s
  | .alarmAck what => Sys2Proof.Machine.execAlarmAck what s
  | .alarmQuery start => Sys2Proof.Machine.execAlarmQuery start s
  | .hornSettings fields => Sys2Proof.Machine.execHornSettings fields s
  | .rollCall => Sys2Proof.Machine.execRollCall s
  | .bindStation site serial => Sys2Proof.Machine.execBindStation site serial s
  | .slotPlan stations => Sys2Proof.Machine.execSlotPlan stations s
  | .linkRestart => Sys2Proof.Machine.execLinkRestart s
  | .linkSettings autoRollCall => Sys2Proof.Machine.execLinkSettings autoRollCall s
  | .linkQuery start => Sys2Proof.Machine.execLinkQuery start s
  | .nextNotice => Sys2Proof.Machine.execNextNotice s
  | .setNoticeMask enables => Sys2Proof.Machine.execSetNoticeMask enables s
  | .status => Sys2Proof.Machine.execStatus s
  | .identify => Sys2Proof.Machine.execIdentify s
  | .saveSettings => Sys2Proof.Machine.execSaveSettings s
  | .saveDone result => Sys2Proof.Machine.execSaveDone result s
  | .restart => Sys2Proof.Machine.execRestart s
  | .restartReset eepromAnswers => Sys2Proof.Machine.execRestartReset eepromAnswers s
  | .powerLoss left => Sys2Proof.Machine.execPowerLoss left s
  | .resetInputRelease eepromAnswers => Sys2Proof.Machine.execResetInputRelease eepromAnswers s
  | .startByteReceived later => Sys2Proof.Machine.execStartByteReceived later s

end Sys2Proof.Machine
end

