-- ==== Sys2Proof/Safety.lean ====
section
/-! DEFINITION. What counts as a sound state, in the terms the statements use: the bounds of the part's collections, the canonical
form of the journal store, the laws of the lot record, the commands that follow from the vessels' states, and the horn. -/

namespace Sys2Proof.Machine

namespace State

/-- The port takes a request now: frames are taken and no reply is being sent (R163, R169). -/
def accepts (s : State) : Bool := s.takesFrames && s.port.state == .ready

/-- The collections keep to their capacities: 16 lots (R4), 48 alarm entries (R139), 32 notices (R165). -/
def bounded (s : State) : Bool :=
  decide (s.lots.length ≤ Config.lotCapacity) && decide (s.alarms.entries.length ≤ Config.alarmCapacity) &&
    decide (s.port.notices.length ≤ Config.noticeCapacity)

/-- The journal store is in its canonical form (R172). -/
def storeSound (s : State) : Bool := Store.wf s.store

/-- Every live lot's W lies within its ceiling (R6). -/
def moistureSound (s : State) : Bool := s.lots.all fun l => decide (l.w ≤ l.wcap)

end State

/-- The vessels a lot occupies: its place and, in transfer, its destination where that is a vessel (R5). -/
def Lot.occupies (l : Lot) : List Vessel :=
  l.place :: match l.transfer with
    | some t => match t.dest with
      | .vessel p => [p]
      | .out => []
    | none => []

namespace State

/-- The live lots stand in ascending lot number, the order in which LOT-LIST gives them (R22). -/
def lotsOrdered (s : State) : Prop := s.lots.Pairwise fun a b => a.number < b.number

/-- No two live lots share a number, and no vessel is occupied twice (R4, R5). -/
def occupancySound (s : State) : Prop :=
  (s.lots.map (·.number)).Nodup ∧ (s.lots.flatMap Lot.occupies).Nodup

/-- No lot's peat given exceeds its peat target (R109). -/
def peatSound (s : State) : Bool := s.lots.all fun l => decide (l.peatGiven ≤ l.peatTarget)

/-- The horn is out of IDLE only while an unacknowledged entry stands in a horn-enabled category (R145). -/
def hornSound (s : State) : Bool := s.alarms.horn == .idle || s.hornDemand

/-- The outlet of every steep, the gate of every box and the gate of every kiln are those of its state, a TRIPPED kiln's that of
its remembered phase; the fan of a box without a tended lot stands at 0 (R25, R55, R86). -/
def commandsSound (s : State) : Prop :=
  (∀ v, (s.steep v).outlet = outletIn (s.steep v).state) ∧
  (∀ b, (s.box b).gate = boxGate (s.box b).state) ∧
  (∀ b, (s.box b).state = .empty ∨ (s.box b).state = .loading ∨ (s.box b).state = .transferOut → (s.box b).fan = 0) ∧
  (∀ k, (s.kiln k).gate =
    kilnGate (if (s.kiln k).phase = .tripped then (s.kiln k).remembered.getD .empty else (s.kiln k).phase))

/-- A TRIPPED kiln's burner is off and its damper closed (R86). -/
def tripSound (s : State) : Prop :=
  ∀ k, (s.kiln k).phase = .tripped → (s.kiln k).setpoint = 0 ∧ (s.kiln k).damperOpen = false

/-- A DRAWING pot is that of the draw in progress, and there is a draw in DRAWING only; so at most one pot is DRAWING (R117,
R119). -/
def samplerSound (s : State) : Prop :=
  (∀ p, (s.pot p).state = .drawing → s.sampler.draw.any (fun d => d.pot == p) = true) ∧
  (s.sampler.state ≠ .drawing → s.sampler.draw = none)

/-- What a start leaves in every block but the journal store, the EEPROM and the lines: the values after POWER-ON and RESTART, with
the settings given (R4, R24, R43, R44, R54, R71, R85, R106, R117, R119, R131, R138, R139, R145, R148, R162 to R168). -/
def startedWith (t : State) (x : Settings) (defaults : Bool) (cause : ResetCause) : Prop :=
  t.settings = x ∧ t.clock = { minutes := 0, isSet := false } ∧ t.lots = [] ∧ (∀ v, t.steep v = Steep.reset) ∧
  t.water = Water.reset x.nextPw x.nextAw ∧ (∀ b, t.box b = Box.reset) ∧ t.turner = Turner.reset ∧
  (∀ k, t.kiln k = Kiln.reset) ∧ t.peat = Peat.reset ∧ t.sampler = Sampler.reset ∧ t.journal = Journal.reset ∧
  t.alarms = Alarms.reset ∧
  t.link = { Link.reset with state := if x.autoRollCall then .rollCall else .idle, startUpRoll := x.autoRollCall } ∧
  t.port.rx = .hunt ∧ t.port.state = .ready ∧ t.port.reply = none ∧ t.port.badFrames = 0 ∧ t.port.discarded = 0 ∧
  t.port.noticeOverflow = false ∧ t.port.defaultsInUse = defaults ∧ t.port.saving = none ∧ t.port.lastReset = cause ∧
  t.port.restart = .none ∧
  (x.noticeMask[NoticeKind.stateChange.index] = true →
    t.port.notices.head? = some { number := 0, minute := 0, body := .stateChange .port 0 cause.code })

/-- The four rows that act on an unpowered or held part: power, its loss, the reset input and its release. -/
def reachesStopped : Instr → Bool
  | .powerOn _ => true
  | .resetInput _ _ => true
  | .powerLoss _ => true
  | .resetInputRelease _ => true
  | _ => false

/-- The rows that start the part afresh, or read its journal's numbers from the store. -/
def startsAfresh : Instr → Bool
  | .powerOn _ => true
  | .resetInput _ _ => true
  | .powerLoss _ => true
  | .resetInputRelease _ => true
  | .restartReset _ => true
  | .startUpScan => true
  | _ => false

/-! ### Lots within their ranges, the turner on its box, and the journal's room -/

end State

/-- A lot's fields within the ranges R3 gives them: the number, mass in, ceiling, steep target, minutes in steep and in box, turn
count, minutes since the last turn, aborted passes, peat target, ratio, shortfall and out mass. Its W is `moistureSound`'s and its peat
given `peatSound`'s. -/
def Lot.inRange (l : Lot) : Prop :=
  (1 ≤ l.number ∧ l.number ≤ 65535) ∧ l.massIn ≤ 60000 ∧ (4000 ≤ l.wcap ∧ l.wcap ≤ 5200) ∧
  (3800 ≤ l.target ∧ l.target ≤ 4800 ∧ l.target ≤ l.wcap) ∧ l.minSteep ≤ 4294967295 ∧ l.minBox ≤ 4294967295 ∧
  l.turnCount ≤ 65535 ∧ (∀ n, l.sinceTurn = some n → n ≤ 4294967295) ∧ l.aborted ≤ 65535 ∧ l.peatTarget ≤ 1440 ∧
  (∀ q, l.q = some q → q ≤ 1024) ∧ (∀ x, l.shortfall = some x → x ≤ 1440) ∧
  (∀ x m, l.transfer = some x → x.outMass = some m → m ≤ 60000)

/-! ### Values given and kept -/

/-- A setting after a request: a value given is brought into its range, and the one that stands is kept where none is given (4.2,
R164). -/
def settled (lo hi : Nat) (given : Option Nat) (stands : Nat) : Nat :=
  match given with
  | some n => if n < lo then lo else if hi < n then hi else n
  | none => stands

/-- The same for a temperature. -/
def settledTemp (lo hi : Nat) (given : Option Temp) (stands : Nat) : Nat :=
  match given with
  | some z => if z < (lo : Int) then lo else if (hi : Int) < z then hi else z.toNat
  | none => stands

/-- A value is given, and outside its range. -/
def outside (lo hi : Nat) (given : Option Nat) : Prop := ∃ n, given = some n ∧ (n < lo ∨ hi < n)
def outsideTemp (lo hi : Nat) (given : Option Temp) : Prop := ∃ z, given = some z ∧ (z < (lo : Int) ∨ (hi : Int) < z)

namespace State

/-- A queued turn is for a TENDING box; a box in TENDING, READY or HALTED has its lot, in no transfer; and the operation is of a
turner in TRAVELLING or PASSING, on a box flagged engaged that is TENDING or READY and holds the operation's lot (R55, R63, R71,
R72, R79). -/
def turnerSound (s : State) : Prop :=
  (∀ r ∈ s.turner.queue, (s.box r.box).state = .tending) ∧
  (∀ b, (s.box b).state = .tending ∨ (s.box b).state = .ready ∨ (s.box b).state = .halted →
    ∃ l ∈ s.lots, l.place = .box b ∧ l.transfer = none) ∧
  (∀ op, s.turner.operation = some op →
    (s.turner.state = .travelling ∨ s.turner.state = .passing) ∧ (s.box op.request.box).engaged = true ∧
    ((s.box op.request.box).state = .tending ∨ (s.box op.request.box).state = .ready) ∧
    ∃ l ∈ s.lots, l.number = op.lot ∧ l.place = .box op.request.box ∧ l.transfer = none)

/-- The numbers of the entries in the write path, front first (R130). -/
def pathNumbers (s : State) : List Nat :=
  s.writePath.filterMap fun i => match i with | .entry e => some e.number | .base _ => none

/-- A lot waits for its draw (PENDING), or has it under way (FLOWING): the draw is not resolved, and its two entries are reserved, at
KILN-OUT beside that of LOT-OUT (R12, R14, R15). -/
def drawOwed (s : State) (n : Nat) (flowing : Bool) : Prop :=
  ∃ l ∈ s.lots, ∃ x, l.number = n ∧ l.transfer = some x ∧ (samplePoint? l.place).isSome = true ∧ x.flowing = flowing ∧
    x.resolved = false ∧ 2 ≤ x.reserved ∧ (x.dest = .out → 3 ≤ x.reserved)

/-- The outstanding reservations are those of the transfers, of the FILLED pots and of the open samples the rebuild has yet to claim;
every draw, waiting or under way, is owed by its lot (R129, R136). -/
def reservationsSound (s : State) : Prop :=
  s.journal.reserved = (s.lots.map fun l => (l.transfer.map (·.reserved)).getD 0).sum + s.filledPots +
    (s.sampler.openSamples.getD []).length ∧
  (∀ p, (s.pot p).state = .filled ↔ (s.pot p).sample.isSome = true) ∧
  (∀ l ∈ s.lots, ∀ x, l.transfer = some x → x.dest = .out → 1 ≤ x.reserved) ∧
  (∀ d, s.sampler.draw = some d → (s.pot d.pot).state = .drawing ∧ s.drawOwed d.lot true) ∧
  (∀ d ∈ s.sampler.pending, s.drawOwed d.lot false) ∧ (s.sampler.pending.map (·.lot)).Nodup

/-- Held entries and outstanding reservations never exceed 4,096 together, and the write path holds the newest numbers in order, up to
the next (R129, R130). -/
def journalSound (s : State) : Prop :=
  s.journal.oldest ≤ s.journal.next ∧ s.heldCount + s.journal.reserved ≤ 4096 ∧
  (∃ k, k ≤ s.journal.next ∧ s.pathNumbers = List.range' (s.journal.next - k) k)

/-! ### Ordered queues and settings in range -/

/-- The turn queue stands in the order of R72, with at most one request a box. -/
def turnQueueSound (s : State) : Prop :=
  s.turner.queue.Pairwise (fun a b => a.before b = true) ∧ (s.turner.queue.map (·.box)).Nodup

end State

/-- A step of a steep program within its ranges (R26). -/
def SteepStep.inRange : SteepStep → Prop
  | .immerse m l _ => 10 ≤ m ∧ m ≤ 1440 ∧ 100 ≤ l ∧ l ≤ 65000
  | .rest m _ => 10 ≤ m ∧ m ≤ 1440

/-- A box's settings within their ranges (R66). -/
def BoxSettings.inRange (x : BoxSettings) : Prop :=
  (1440 ≤ x.target ∧ x.target ≤ 10080) ∧ (30 ≤ x.minInterval ∧ x.minInterval ≤ 720) ∧
  (120 ≤ x.maxInterval ∧ x.maxInterval ≤ 1440) ∧ (5 ≤ x.spreadThreshold ∧ x.spreadThreshold ≤ 100) ∧
  (120 ≤ x.highMean ∧ x.highMean ≤ 260) ∧ (100 ≤ x.tset ∧ x.tset ≤ 220) ∧ x.kf ≤ 50 ∧ x.fbase ≤ 100 ∧ x.fmin ≤ x.fmax ∧
  x.fmax ≤ 100

/-- A kiln program within its ranges, its values agreeing (R89, R90). -/
def KilnProgram.inRange (x : KilnProgram) : Prop :=
  (400 ≤ x.tfd ∧ x.tfd ≤ 900) ∧ (64 ≤ x.qb ∧ x.qb ≤ 768) ∧ (1 ≤ x.nb ∧ x.nb ≤ 60) ∧ (1 ≤ x.rr ∧ x.rr ≤ 20) ∧
  (600 ≤ x.tc ∧ x.tc ≤ 1050) ∧ x.hc ≤ 600 ∧ (200 ≤ x.wfinal ∧ x.wfinal ≤ 1500) ∧ (100 ≤ x.wend ∧ x.wend ≤ 1000) ∧
  (200 ≤ x.tcool ∧ x.tcool ≤ 600) ∧ (120 ≤ x.maxFreeDry ∧ x.maxFreeDry ≤ 2880) ∧ (500 ≤ x.tmax ∧ x.tmax ≤ 1100) ∧
  x.tfd + 20 ≤ x.tmax ∧ x.tc + 20 ≤ x.tmax ∧ x.wend < x.wfinal

/-- Every setting within the range its rule gives, and no serial bound twice (R18, R26, R28, R44, R66, R82, R89, R90, R114, R146,
R150). -/
def Settings.inRange (x : Settings) : Prop :=
  (∀ (i j : Fin 19) (n : Serial), x.bindings[i] = some n → x.bindings[j] = some n → i = j) ∧
  (∀ v : SteepId, (1 ≤ x.steepPrograms[v].steps.length ∧ x.steepPrograms[v].steps.length ≤ 8) ∧
    (∀ y ∈ x.steepPrograms[v].steps, y.inRange) ∧ 10 ≤ x.fillTimeouts[v] ∧ x.fillTimeouts[v] ≤ 240) ∧
  (10 ≤ x.transferTimeout ∧ x.transferTimeout ≤ 480) ∧ (∀ b : BoxId, x.boxes[b].inRange) ∧
  (1 ≤ x.turner.travel ∧ x.turner.travel ≤ 10) ∧ (10 ≤ x.turner.pass ∧ x.turner.pass ≤ 120) ∧
  (∀ b : BoxId, x.turner.spray[b] ≤ 300) ∧ (∀ k : KilnId, x.kilns[k].inRange) ∧
  (10 ≤ x.peat.spell ∧ x.peat.spell ≤ 120) ∧ (1 ≤ x.peat.switchover ∧ x.peat.switchover ≤ 15) ∧
  (1500 ≤ x.peat.cutoff ∧ x.peat.cutoff ≤ 4000) ∧ (2 ≤ x.nextPw ∧ x.nextPw ≤ 60) ∧
  (1000 ≤ x.nextAw ∧ x.nextAw ≤ 200000) ∧ (1 ≤ x.horn.hon ∧ x.horn.hon ≤ 10) ∧ x.horn.hoff ≤ 60

namespace State

/-- The plans the part holds: the one in force, that of the settings, that of the settings image and that of a copy being saved (R148,
R153, R168). -/
def holdsPlan (s : State) (p : Plan) : Prop :=
  s.link.force = some p ∨ s.settings.plan = some p ∨ s.eeprom.body.plan = some p ∨
    ∃ copy, s.port.saving = some copy ∧ copy.plan = some p

end State

/-- A plan as SLOT-PLAN accepts it: its stations stand in position order at positions 1 to 30, no serial appears twice, and no reading
twice at a station (R150, R153). -/
def Plan.ordered (p : Plan) : Prop :=
  p.stations.Pairwise (fun a b => a.position < b.position) ∧ (∀ y ∈ p.stations, 1 ≤ y.position ∧ y.position ≤ 30) ∧
  (p.stations.map (·.serial)).Nodup ∧ ∀ y ∈ p.stations, (y.ups.map (·.reading)).Nodup

namespace State

/-- The roster stands in position order at positions 1 to 30, no serial twice, every fail count at most 50; every plan held is ordered;
and a roll call probes a position of the chain beyond those in the roster (R150, R151, R153). -/
def chainSound (s : State) : Prop :=
  (s.link.roster.Pairwise fun a b => a.position < b.position) ∧ (s.link.roster.map (·.serial)).Nodup ∧
  (∀ e ∈ s.link.roster, 1 ≤ e.position ∧ e.position ≤ 30 ∧ e.failCount ≤ 50) ∧ (∀ p, s.holdsPlan p → p.ordered) ∧
  (s.link.state = .rollCall →
    1 ≤ s.link.probePosition ∧ s.link.probePosition ≤ 30 ∧ (∀ e ∈ s.link.roster, e.position < s.link.probePosition) ∧
    ∀ p e, s.link.sent = .probe p e → s.link.returned = false → p = s.link.probePosition)

/-- The settings, the image they are saved to and a copy being saved are all within their ranges (R164, R167, R168). -/
def settingsSound (s : State) : Prop :=
  s.settings.inRange ∧ s.eeprom.body.inRange ∧ ∀ copy, s.port.saving = some copy → copy.inRange

/-! ### What a step leaves -/

/-- The port after a request that was answered: a reply is being sent, the receiver is in HUNT with nothing gathered, notices may have
joined the queue, and nothing else of the port changed (R162, R163, R165). -/
def replied (s t : State) (kind : Byte) (r : Reply) : Prop :=
  s.port.notices <+: t.port.notices ∧
  t.port = { s.port with
    rx := .hunt, rxLength := 0, rxKind := 0, rxPayload := [], rxCheck := []
    state := .answering, reply := some (kind, r), notices := t.port.notices, noticeNumber := t.port.noticeNumber
    noticeOverflow := t.port.noticeOverflow }

/-- The port after an event: notices may have joined the queue, nothing else of the port changed (R165). -/
def notified (s t : State) : Prop :=
  s.port.notices <+: t.port.notices ∧
  t.port = { s.port with
    notices := t.port.notices, noticeNumber := t.port.noticeNumber, noticeOverflow := t.port.noticeOverflow }

/-- Every lot but that of a number is as it was. -/
def otherLots (s t : State) (n : Nat) : Prop := ∀ l : Lot, l.number ≠ n → (l ∈ t.lots ↔ l ∈ s.lots)

/-- Every steep, box, kiln or pot but one is as it was. -/
def otherSteeps (s t : State) (v : SteepId) : Prop := ∀ u, u ≠ v → t.steep u = s.steep u
def otherBoxes (s t : State) (b : BoxId) : Prop := ∀ c, c ≠ b → t.box c = s.box c
def otherKilns (s t : State) (k : KilnId) : Prop := ∀ j, j ≠ k → t.kiln j = s.kiln j
def otherPots (s t : State) (p : PotId) : Prop := ∀ q, q ≠ p → t.pot q = s.pot q

/-- A new alarm was told of: an ALARM-RAISED notice was raised, and the horn was restarted where its category is horn-enabled;
otherwise the horn follows the demand (R141, R145). -/
def alarmTold (s t : State) (x : Source) (k : AlarmKind) : Prop :=
  t.port = (s.notify (.alarmRaised x k s.now)).port ∧
  (s.hornEnabled k.category = true →
    t.alarms.horn = .on ∧ t.alarms.hornMinutes = 0 ∧ t.alarms.hornLength = s.settings.horn.hon) ∧
  (s.hornEnabled k.category = false →
    (t.hornDemand = false → t.alarms.horn = .idle ∧ t.alarms.hornMinutes = 0) ∧
    (t.hornDemand = true → s.alarms.horn ≠ .idle →
      t.alarms.horn = s.alarms.horn ∧ t.alarms.hornMinutes = s.alarms.hornMinutes ∧ t.alarms.hornLength = s.alarms.hornLength))

/-- A new alarm went no further than the standing set, or was lost to a full list: no notice, and the horn as it was (R140, R141,
R144). -/
def alarmQuiet (s t : State) : Prop :=
  t.port = s.port ∧ t.alarms = { s.alarms with standing := t.alarms.standing, overflow := t.alarms.overflow }

/-- The horn after a test of the demand: IDLE where there is none, ON with Hon in force where the demand arises with the horn IDLE, and
otherwise as it was (R145). -/
def hornFollows (s t : State) : Prop :=
  (t.hornDemand = false →
    t.alarms.horn = .idle ∧ t.alarms.hornMinutes = 0 ∧ t.alarms.hornLength = s.alarms.hornLength) ∧
  (t.hornDemand = true → s.alarms.horn = .idle →
    t.alarms.horn = .on ∧ t.alarms.hornMinutes = 0 ∧ t.alarms.hornLength = t.settings.horn.hon) ∧
  (t.hornDemand = true → s.alarms.horn ≠ .idle →
    t.alarms.horn = s.alarms.horn ∧ t.alarms.hornMinutes = s.alarms.hornMinutes ∧ t.alarms.hornLength = s.alarms.hornLength)

/-- A standing condition was handled as an arising: an active entry is left, a CLEARED-UNACK one made new at the back, and without an
entry a new one is placed at the back, after an eviction from a full list, or lost to overflow (R140, R141, R144). -/
def arose (s t : State) (x : Source) (k : AlarmKind) : Prop :=
  let fresh : AlarmEntry := { source := x, kind := k, raised := s.clock.minutes, state := .activeUnack }
  let kept := s.alarmQuiet t ∧ t.alarms.overflow = s.alarms.overflow
  let entered := fun before : List AlarmEntry =>
    t.alarms.entries = before ++ [fresh] ∧ s.alarmTold t x k ∧ t.alarms.overflow = s.alarms.overflow
  (∀ e, s.alarmEntry? x k = some e → e.state ≠ .clearedUnack → kept) ∧
  (∀ e, s.alarmEntry? x k = some e → e.state = .clearedUnack → entered (s.alarms.entries.filter fun y => !(y.names x k))) ∧
  (s.alarmEntry? x k = none →
    (s.alarms.entries.length < 48 → entered s.alarms.entries) ∧
    (48 ≤ s.alarms.entries.length →
      (∀ front e back, s.alarms.entries = front ++ e :: back → e.state = .clearedUnack →
        (∀ y ∈ front, y.state ≠ .clearedUnack) → entered (front ++ back)) ∧
      ((∀ y ∈ s.alarms.entries, y.state ≠ .clearedUnack) → s.alarmQuiet t ∧ t.alarms.overflow = true)))

/-- The turner after any request of a box left the turn queue, and the engaged flags of the other boxes: with no head to take only the
queue changed; an IDLE turner at a known position takes the head it finds then (R73, R75, R76). -/
def turnDropped (s t : State) (b : BoxId) : Prop :=
  let rest := queueRemove b s.turner.queue
  (s.turner.state ≠ .idle ∨ s.turner.knownPosition = none ∨ rest = [] ∨ s.queuedTurn? b = none →
    t.turner = { s.turner with queue := rest } ∧ ∀ c, c ≠ b → t.box c = s.box c) ∧
  ∀ p r more l, s.turner.state = .idle → s.turner.knownPosition = some p → s.queuedTurn? b ≠ none → rest = r :: more →
    s.lotAt? (.box r.box) = some l →
    t.turner = { s.turner with
      state := .travelling, queue := more, operation := some { request := r, lot := l.number }, travelMinutes := 0
      travelLimit := (max p.val (r.box.val + 1) - min p.val (r.box.val + 1)) * s.settings.turner.travel + 5
      target := railPosition r.box, action := .travel } ∧
    t.box r.box = { s.box r.box with engaged := true } ∧ ∀ c, c ≠ b → c ≠ r.box → t.box c = s.box c

/-- A pot is READY, and the first such position after the last drawn one, counting upward and wrapping (R122). -/
def nextReady (s : State) (p : PotId) : Prop :=
  (s.pot p).state = .ready ∧
  (s.sampler.lastDrawn < p.val + 1 → ∀ q, (s.pot q).state = .ready → s.sampler.lastDrawn < q.val + 1 → p ≤ q) ∧
  (p.val + 1 ≤ s.sampler.lastDrawn → ∀ q, (s.pot q).state = .ready → q.val + 1 ≤ s.sampler.lastDrawn ∧ p ≤ q)

/-- A kiln took a phase with a gate and no heat; a TRIPPED kiln remembers the phase instead (R86, R87). -/
def kilnTook (s t : State) (k : KilnId) (x : KilnPhase) (g : Gate) : Prop :=
  (t.kiln k).gate = g ∧
  (if (s.kiln k).phase = .tripped then (t.kiln k).phase = .tripped ∧ (t.kiln k).remembered = some x
   else (t.kiln k).phase = x ∧ (t.kiln k).setpoint = 0 ∧ (t.kiln k).damperOpen = false)

/-- A fill request of so many litres arrived, which leaves the steep as given, its fill QUEUED: with no round started, or a closed one, it
joins the tail of the queue; in an open round it is granted where it is the first grant or its litres fit, the fill RUNNING from the held
volume with the valve open, and else joins the queue and closes the round (R30, R31, R47, R48). -/
def posted (s t : State) (v : SteepId) (x : Steep) (litres : Nat) : Prop :=
  let others := s.water.queue.filter fun r => decide (r.steep ≠ v)
  let queue := others ++ [{ steep := v, litres := litres, minute := s.now }]
  let fits := s.water.grants = 0 ∨ s.water.booked + litres ≤ s.water.allowance
  (s.water.started = false ∨ s.water.closed = true → t.steep v = x ∧ t.water = { s.water with queue := queue }) ∧
  (s.water.started = true → s.water.closed = false → fits →
    t.steep v = { x with
      fillStage := .running, fillBaseline := s.held? (steepSite v) .delivered, valveOpen := true
      timeoutInForce := s.settings.fillTimeouts[v] } ∧
    t.water = { s.water with
      queue := others, booked := s.water.booked + litres, grants := s.water.grants + 1 }) ∧
  (s.water.started = true → s.water.closed = false → ¬fits →
    t.steep v = x ∧ t.water = { s.water with queue := queue, closed := true })

/-- A box stopped its fan and dropped its need on entry to a state (R55). -/
def boxTook (t : State) (b : BoxId) (x : BoxState) (g : Gate) : Prop :=
  (t.box b).state = x ∧ (t.box b).gate = g ∧ (t.box b).fan = 0 ∧ (t.box b).need = none

/-- What a transfer's entry to FLOWING does to the vessels: the source is in TRANSFER-OUT, a kiln UNLOADING, the destination in
LOADING, every other vessel as it was; a steep's queued fill is withdrawn and its record cleared, its step minutes too (the model's
choice, log 55), and an UNLOADING kiln gives up the fire (R14, R36, R56, R87). -/
def vesselsFlow (s t : State) (p : Vessel) (d : Place) : Prop :=
  (∀ v, t.steep v =
    if p = .steep v then { Steep.reset with state := .transferOut, outlet := .discharge } else s.steep v) ∧
  t.water = { s.water with queue := s.water.queue.filter fun r =>
    !(decide (p = .steep r.steep) && (s.steep r.steep).state == .filling && (s.steep r.steep).fillStage == .queued) } ∧
  (∀ b, if d = .vessel (.box b) then t.boxTook b .loading .receive
    else if p = .box b then t.boxTook b .transferOut .discharge else t.box b = s.box b) ∧
  (∀ k, if d = .vessel (.kiln k) then s.kilnTook t k .loading .receive
    else if p = .kiln k then s.kilnTook t k .unloading .discharge else t.kiln k = s.kiln k) ∧
  (∀ k, p = .kiln k → t.peat = if s.peat.holder = some k then
      { s.peat with asking := s.peat.asking.set k false, state := .free, holder := none, route := none, switchMinutes := 0
                    spellMinutes := 0 }
    else { s.peat with asking := s.peat.asking.set k false }) ∧
  ((∀ k, p ≠ .kiln k) → t.peat = s.peat)

/-- A TRANSFER that passes a sample point may be accepted: a finished or forced steep's to a free box, with two reservations, or a
finished or forced kiln's to OUT, with three and an out mass; the lot is in no transfer and the journal has the room (R11, R12). -/
def sampled (s : State) (l : Lot) (d : Place) (point : Point) (k : Nat) (mass : Option Nat) (force : Bool) : Prop :=
  l.transfer = none ∧ k ≤ s.roomOffered ∧
  ((∃ v b, l.place = .steep v ∧ d = .vessel (.box b) ∧ point = .steepOut ∧ k = 2 ∧ mass = none ∧ s.isFree (.box b) = true ∧
      (force = true ∨ (s.steep v).state = .done)) ∨
   (∃ q m, l.place = .kiln q ∧ d = .out ∧ point = .kilnOut ∧ k = 3 ∧ mass = some m ∧
      (force = true ∨ (s.kiln q).phase = .ready)))

/-- The three paths of a transfer (R11). -/
def onPath (p : Vessel) (d : Place) : Prop :=
  (∃ v b, p = .steep v ∧ d = .vessel (.box b)) ∨ (∃ b k, p = .box b ∧ d = .vessel (.kiln k)) ∨ (∃ k, p = .kiln k ∧ d = .out)

/-- What the abort of a FLOWING transfer does to the vessels where the source keeps the lot: a steep is DONE, a box READY or TENDING by
its lot's minutes, a kiln READY, and the destination EMPTY; a TRIPPED kiln remembers its phase instead (R20, R21). -/
def sourceKept (s t : State) (l : Lot) (d : Place) : Prop :=
  (∀ v, t.steep v = if l.place = .steep v then { s.steep v with
      state := .done, valveOpen := false, outlet := .closed
      air := if (s.steepProgram v).endWithRest then .extract else .off } else s.steep v) ∧
  (∀ b, if l.place = .box b then
      (t.box b).state = (if (s.boxSettings b).target ≤ l.minBox then .ready else .tending) ∧ (t.box b).gate = .closed ∧
      (l.minBox < (s.boxSettings b).target → (t.box b).fan = (s.boxSettings b).fbase ∧ (t.box b).need = none)
    else if d = .vessel (.box b) then t.boxTook b .empty .closed else t.box b = s.box b) ∧
  (∀ k, if l.place = .kiln k then s.kilnTook t k .ready .closed
    else if d = .vessel (.kiln k) then s.kilnTook t k .empty .closed else t.kiln k = s.kiln k) ∧
  t.peat = s.peat

/-- What it does to them where the destination keeps the lot: the source is EMPTY, a box is TENDING at Fbase, a kiln in FREE-DRY anew,
asking for the fire; a TRIPPED kiln stays so, to return to FREE-DRY (R20, R21). -/
def destTook (s t : State) (p d : Vessel) : Prop :=
  (∀ v, t.steep v = if p = .steep v then { s.steep v with
      state := .empty, valveOpen := false, outlet := .closed, air := .off } else s.steep v) ∧
  (∀ b, if d = .box b then
      (t.box b).state = .tending ∧ (t.box b).gate = .closed ∧ (t.box b).fan = (s.boxSettings b).fbase ∧ (t.box b).need = none ∧
      (t.box b).blind = false
    else if p = .box b then t.boxTook b .empty .closed else t.box b = s.box b) ∧
  (∀ k, if d = .kiln k then
      (t.kiln k).gate = .closed ∧ (t.kiln k).freeDryMinutes = 0 ∧ (t.kiln k).breakCount = 0 ∧
      (if (s.kiln k).phase = .tripped then
        (t.kiln k).phase = .tripped ∧ (t.kiln k).remembered = some .freeDry ∧ t.peat = s.peat
       else (t.kiln k).phase = .freeDry ∧ (t.kiln k).setpoint = (s.kilnProgram k).tfd ∧
        t.peat = { s.peat with asking := s.peat.asking.set k true })
    else t.kiln k = s.kiln k) ∧
  ((∀ k, d ≠ .kiln k) → t.peat = s.peat)

/-- The store holds a run of accepted records under the numbers from n up to, not including, m, and no more (R136). -/
def heldRun (s : State) (n m : Nat) : Prop :=
  n ≤ m ∧ m - n ≤ 4096 ∧ (∀ i, n ≤ i → i < m → (storedEntry? s.store i).isSome = true) ∧
  (m - n = 4096 ∨ storedEntry? s.store m = none)

/-- The open samples of a held run, in number order: its SAMPLE entries no COLLECTED entry of it refers to. A stored point that
names none is taken as STEEP-OUT, the model's choice (log 44) (R136). -/
def openFound (s : State) (n m : Nat) (samples : List OpenSample) : Prop :=
  samples.Pairwise (fun a b => a.number < b.number) ∧
  ∀ x, x ∈ samples ↔ ∃ i e, n ≤ i ∧ i < m ∧ storedEntry? s.store i = some e ∧ e.kind = .sample ∧
    (∀ j c, n ≤ j → j < m → storedEntry? s.store j = some c → c.kind = .collected → c.ref ≠ e.number) ∧
    x = { lot := e.lot, point := e.point.getD .steepOut, position := e.pot, number := e.number }

/-- The lowest number among the good records of the entry places, or 1 where there is none: where a store whose base record is bad
begins (R136). -/
def lowestHeld (s : State) (n : Nat) : Prop :=
  (∀ p e, 1 ≤ p → p ≤ 4096 → Entry.ofRecord? (Store.record s.store p) = some e → n ≤ e.number) ∧
  ((∃ p e, 1 ≤ p ∧ p ≤ 4096 ∧ Entry.ofRecord? (Store.record s.store p) = some e ∧ e.number = n) ∨
   (n = 1 ∧ ∀ p, 1 ≤ p → p ≤ 4096 → Entry.ofRecord? (Store.record s.store p) = none))

/-- An entry was numbered: it took the next number and the present plant minute, and joined the write path behind what was in it; a
STORE-FAULT is as it was (R128, R130). -/
def numbered (s t : State) (e : Entry) : Prop :=
  e.number = s.journal.next ∧ e.minute = s.now ∧ t.journal.next = s.journal.next + 1 ∧
  t.writePath = s.writePath ++ [.entry e] ∧ t.journal.oldest = s.journal.oldest ∧ t.journal.state = s.journal.state ∧
  t.journal.fault = s.journal.fault

/-- The states a lot may be restored into (R9). -/
def restorable (p : Vessel) (code : Nat) : Prop :=
  match p with
  | .steep _ => code = SteepState.done.code
  | .box _ => code = BoxState.tending.code ∨ code = BoxState.ready.code
  | .kiln _ => code = KilnPhase.freeDry.code ∨ code = KilnPhase.curingRamp.code ∨ code = KilnPhase.curingHold.code ∨
      code = KilnPhase.cooling.code ∨ code = KilnPhase.ready.code

/-- An open sample claims its pot at the rebuild: its position is PRESENT, and no later open sample names it (R137). -/
def claims (present : Vector Bool 24) (xs : List OpenSample) (x : OpenSample) : Prop :=
  ∃ p : PotId, x.position = p.val + 1 ∧ present[p] = true ∧ ∀ y ∈ xs, y.position = x.position → y.number ≤ x.number

/-- The COLLECTED entry the rebuild writes for an open sample, under a number (R128, R137). -/
def collectedAtStart (s : State) (x : OpenSample) (n : Nat) : Entry :=
  { Entry.blank .collected x.lot with
    number := n, minute := s.now, pot := x.position, ref := x.number, atStartUp := true }

/-! ### The field link -/

/-- A roll call ended over the link record as it then stood: LINK-IDLE; after one begun by a reset a stored plan each of whose stations was
found at its position and is bound waits to be announced, with E0 from the roster, and another raises PLAN-MISMATCH (R151, R160). -/
def rollEnded (s c : State) (x : Link) : Prop :=
  let idle : Link := { x with state := .idle, returned := true, startUpRoll := false }
  (x.startUpRoll = false ∨ s.settings.plan = none → c.link = idle ∧ c.alarms = s.alarms ∧ c.settings = s.settings) ∧
  (∀ p, x.startUpRoll = true → s.settings.plan = some p →
    ((∀ y ∈ p.stations, ∃ e ∈ x.roster, e.position = y.position ∧ e.serial = y.serial ∧
        ∃ i : Fin 19, s.settings.bindings[i] = some y.serial) →
      c.link = { idle with announcing := true } ∧ c.alarms = s.alarms ∧ ∃ e0,
      c.settings = { s.settings with plan := some { p with e0 := e0 } } ∧
      ∀ y e, p.stations.getLast? = some y → x.roster.find? (·.position == y.position) = some e → e0 = e.offset) ∧
    ((∃ y ∈ p.stations, ∀ e ∈ x.roster, e.position = y.position → e.serial = y.serial →
        ∀ i : Fin 19, s.settings.bindings[i] ≠ some y.serial) →
      c.link = idle ∧ c.settings = s.settings ∧ c.stands .link .planMismatch = true))

/-- A miss of the turnaround is the eighth in a row, in LINK-RUN or of an announcement not yet accepted in LINK-IDLE (R157). -/
def eighthMiss (s : State) : Prop :=
  8 ≤ s.link.missed + 1 ∧ (s.link.state = .run ∨ s.link.state = .idle ∧ s.link.announcing = true)

/-- A missed turnaround counted: the eighth takes the link down, E at E0 and the counts at 0 (R156, R157). -/
def turnaroundMissed (s c : State) : Prop :=
  (¬s.eighthMiss → c = s.withLink { s.link with missed := s.link.missed + 1, returned := true }) ∧
  (s.eighthMiss → c.link = { s.link with state := .down, expected := s.e0?, retry := 0, missed := 0, returned := true } ∧
    c.stands .link .linkDown = true ∧ c = { s with link := c.link, alarms := c.alarms, port := c.port } ∧ s.notified c)

/-- A command brings back the burst that is out, at an offset, with its header good or not, marked or not (R154, R155, R157, R158). -/
def bringsBack (s : State) (i : Instr) (mark : Option Nat) (offset : Int) (headerOk : Bool) : Prop :=
  s.link.returned = false ∧
  ((∃ x, s.link.sent = .announcement x ∧ mark = none ∧ i = .planIntoForce offset headerOk) ∨
   (∃ b order, offset = b.offset ∧ headerOk = b.headerOk ∧
    ((∃ g c, s.link.sent = .run g c ∧ mark = none ∧ i = .runCycleAccepted b order) ∨
     (∃ m, ((∃ g c, s.link.sent = .run g c) ∨ ∃ x, s.link.sent = .announcement x) ∧ mark = some m ∧ i = .shortChain m b order) ∨
     (∃ x g c, s.link.sent = .tried x g c ∧ i = .triedCycleAccepted mark b order))))

/-- A returning burst lies within -4 to +15: unmarked of E0, marked of its marker's response offset (R156, R158). -/
def inItsWindow (s : State) (mark : Option Nat) (offset : Int) : Prop :=
  match mark with
  | none => ∃ p, s.settings.plan = some p ∧ p.e0 - 4 ≤ offset ∧ offset ≤ p.e0 + 15
  | some m => ∃ e, s.rosterAt? m = some e ∧ e.offset - 4 ≤ offset ∧ offset ≤ e.offset + 15

/-- What the end of a cycle period makes of a burst that did not return in it, before the counts and ages: an unanswered probe, the third
in a row ending the roll call; a missed turnaround, the eighth in a row taking the link down; nothing where the burst returned or none
was sent (R151, R156, R157, R160). A burst counted so is not judged again. -/
def silenced (s c : State) : Prop :=
  let probed := ∃ p e, s.link.sent = .probe p e
  let out := s.link.returned = false ∧ s.link.sent ≠ .none
  (¬out ∨ (probed ∧ s.link.state ≠ .rollCall) → c = s) ∧
  (out → probed → s.link.state = .rollCall →
    (s.link.unanswered + 1 < 3 → c = s.withLink { s.link with unanswered := s.link.unanswered + 1, returned := true }) ∧
    (3 ≤ s.link.unanswered + 1 → s.rollEnded c { s.link with unanswered := s.link.unanswered + 1 })) ∧
  (out → ¬probed → s.turnaroundMissed c) ∧
  c = { s with settings := c.settings, link := c.link, alarms := c.alarms, port := c.port } ∧ s.notified c

/-- The slots a burst carries for a planned station: none below a mark (R158). -/
def carried (b : Burst) (mark : Option Nat) (y : PlanStation) : List RawSlot :=
  if mark.any fun m => decide (m < y.position) then []
  else ((b.stations.find? (·.position == y.position)).map (·.slots)).getD []

/-- What a planned station's slot of a reading gives, where it passed (R152). -/
def gives (b : Burst) (mark : Option Nat) (y : PlanStation) (r : Reading) : Option Int :=
  ((y.ups.zip (carried b mark y)).find? (·.1.reading == r)).bind fun x => decodeSlot? x.1 x.2

/-- The zone grids after an accepted cycle: the zone slots of a planned box station that passed go to the three zones of the group its
echo names, with age 0, and every other zone is as it was (R52, R155). -/
def zonesFilled (s t : State) (p : Plan) (b : Burst) (mark : Option Nat) : Prop :=
  (∀ (x : BoxId) (y : PlanStation) (z : ZoneId) (r : Reading), y ∈ p.stations →
    s.serialOf? (.vessel (.box x)) = some y.serial →
    r = (if z.val % 3 = 0 then .zoneA else if z.val % 3 = 1 then .zoneB else .zoneC) →
    (t.box x).zones[z] = match gives b mark y .echo, gives b mark y r with
      | some g, some v => if g = ((z.val / 3 : Nat) : Int) then { value := some v, age := 0, fed := true } else (s.box x).zones[z]
      | _, _ => (s.box x).zones[z]) ∧
  (∀ x : BoxId, (∀ y ∈ p.stations, s.serialOf? (.vessel (.box x)) ≠ some y.serial) → (t.box x).zones = (s.box x).zones)

/-- The planned stations after an accepted cycle: the fail count of one with upstream slots, at or above a mark, is 0 after a slot of
even parity, and else 1 more, to 50; a LOST one is ACTIVE again with the former, and an ACTIVE one LOST at 50. One below a mark is LOST,
and one without upstream slots ACTIVE again after a cycle without a mark. STATION-LOST follows a change; a station no plan names is as it
was (R158, R159). -/
def chainJudged (s t : State) (p : Plan) (b : Burst) (mark : Option Nat) : Prop :=
  (∀ (y : PlanStation) (i : Fin 30) (e : RosterEntry), y ∈ p.stations → y.position = i.val + 1 → s.rosterAt? y.position = some e →
    let below := mark.any fun m => decide (m < y.position)
    let passed := ((carried b mark y).take y.ups.length).any fun w => match w with
      | .full v q => (ones v + q.toNat) % 2 == 0
      | .packed x m q => (ones x + ones m + q.toNat) % 2 == 0
    let count := if below || y.ups.isEmpty then e.failCount else if passed then 0 else min 50 (e.failCount + 1)
    let state : StationState :=
      if below then .lost
      else if y.ups.isEmpty then (if mark = none ∧ e.state = .lost then .active else e.state)
      else if passed then (if e.state = .lost then .active else e.state)
      else if 50 ≤ count ∧ e.state = .active then .lost
      else e.state
    t.rosterAt? y.position = some { e with failCount := count, state := state } ∧
    t.stands (.station i) .stationLost = if state = e.state then s.stands (.station i) .stationLost else state == .lost) ∧
  (∀ q, (∀ y ∈ p.stations, y.position ≠ q) → t.rosterAt? q = s.rosterAt? q) ∧
  (∀ i : Fin 30, (∀ y ∈ p.stations, y.position ≠ i.val + 1) →
    t.stands (.station i) .stationLost = s.stands (.station i) .stationLost)

/-- An accepted cycle as the link record, the image, the zones, the roster and the alarms have it, in a state of the link and with
LINK-DOWN standing or not: the missed count 0, the mark recorded and SHORT-CHAIN with it, each image entry as its slot gives it, and E as it
was, or the arrival where an unmarked burst lies outside 2 of it (R155, R156, R158). -/
def cycleJudged (s t : State) (p : Plan) (b : Burst) (mark : Option Nat) (x : LinkState) (down : Bool) : Prop :=
  t.link.state = x ∧ t.link.missed = 0 ∧ t.link.returned = true ∧ t.link.shortPosition = mark ∧
  t.stands .link .shortChain = mark.isSome ∧ t.stands .link .linkDown = down ∧
  t.link.image = imageAfter (arrivalsOf p b mark) s.link.image ∧
  t.link.expected = (if mark.isSome = true ∨ s.link.expected.any (fun e => decide (e - 2 ≤ b.offset ∧ b.offset ≤ e + 2)) = true
    then s.link.expected else some b.offset) ∧
  (s.chainSound → s.zonesFilled t p b mark ∧ s.chainJudged t p b mark)

/-- Nothing but what an accepted cycle is judged by changed: of the link record its state, missed count, mark, image, E and the entries
of the roster, of the boxes their zones, of the standing conditions SHORT-CHAIN, LINK-DOWN and the stations' (R155 to R159). -/
def cycleFrame (s u : State) : Prop :=
  u.link = { s.link with
    state := u.link.state, missed := 0, returned := true, shortPosition := u.link.shortPosition, image := u.link.image
    expected := u.link.expected, roster := u.link.roster } ∧
  u.link.roster.map (fun e => { e with state := .found, failCount := 0 }) =
    s.link.roster.map (fun e => { e with state := .found, failCount := 0 }) ∧
  (∀ b : BoxId, u.box b = { s.box b with zones := (u.box b).zones }) ∧
  (∀ x k, (∀ i, (x, k) ≠ (.station i, .stationLost)) → (x, k) ≠ (.link, .shortChain) → (x, k) ≠ (.link, .linkDown) →
    u.stands x k = s.stands x k) ∧
  u = { s with link := u.link, boxes := u.boxes, alarms := u.alarms, port := u.port } ∧ s.notified u

/-- A cycle was taken: the burst is judged first, and then every block that acts on readings as they arrive acts once on those of the
cycle, in the order given as far as it goes, and leaves the link record and the zones as they are. No rule sets the order (the model's
choice, log 25) (R155). -/
def cycleTaken (s t : State) (p : Plan) (b : Burst) (mark : Option Nat) (x : LinkState) (down : Bool) (order : List Reactor) :
    Prop :=
  ∃ (u : State) (all : List Reactor), s.cycleJudged u p b mark x down ∧ s.cycleFrame u ∧
    all.Nodup ∧ (∀ r, r ∈ all) ∧ (order.Nodup → order <+: all) ∧ t = all.foldl (State.react (arrivalsOf p b mark)) u ∧
    t.link = u.link ∧ ∀ b : BoxId, (t.box b).zones = (u.box b).zones

/-- The command of a place or unit as its slot carries it: what its block last wrote, by the numbers of log 7 (R149, R152). A command that
is not of the station's kind stands in no plan (R153). -/
def commanded (s : State) (x : Site) (c : Command) (value : BitVec 16) : Prop :=
  let gate := fun g : Gate => match g with | .closed => 1 | .receive => 2 | .discharge => 3
  match x, c with
  | .vessel (.steep v), .fillValve => value = if (s.steep v).valveOpen then 2#16 else 1#16
  | .vessel (.steep v), .outlet => value = match (s.steep v).outlet with | .closed => 1#16 | .drain => 2#16 | .discharge => 3#16
  | .vessel (.steep v), .air => value = match (s.steep v).air with | .off => 1#16 | .aerate => 2#16 | .extract => 3#16
  | .vessel (.box b), .fan => value = BitVec.ofNat 16 (s.box b).fan
  | .vessel (.box b), .gate => value = BitVec.ofNat 16 (gate (s.box b).gate)
  | .vessel (.kiln k), .setpoint => value = BitVec.ofNat 16 (s.kiln k).setpoint
  | .vessel (.kiln k), .gateDamper =>
    value = BitVec.ofNat 16 (gate (s.kiln k).gate + if (s.kiln k).damperOpen then 3 else 0)
  | .turner, .target => value = BitVec.ofNat 16 s.turner.target.val
  | .turner, .action =>
    value = match s.turner.action with | .stop => 1#16 | .travel => 2#16 | .pass => 3#16 | .passSpray => 4#16
  | .peat, .peatRoute => value = match s.peat.route with | none => 1#16 | some k => BitVec.ofNat 16 (k.val + 2)
  | .sampler, .draw => value = match s.sampler.command with | none => 0#16 | some p => BitVec.ofNat 16 (p.val + 1)
  | _, _ => True

/-! ### What the blocks make of a cycle's readings -/

/-- Commands, one after another, take one state to another. -/
def runs (s t : State) : List Instr → Prop
  | [] => t = s
  | c :: rest => ∃ m, exec c s = .next m ∧ runs m t rest

/-- The image has every reading that came, but those of the zone grids, as it came (R149, R155). -/
def imageHas (s : State) (a : Arrivals) : Prop :=
  ∀ x r v, r.isZone = false → s.came? a x r = some v → (s.imageEntry? x r).isSome = true ∧ s.arrive x r v = s

/-- The rows of the table that the readings of a cycle amount to for a block, in the order in which it acts on them; the order of a steep's
and of the sampler's readings and of the lots is the model's (logs 41 and 57), the turner's are `turnerReacted`'s (R23, R84, R105, R116,
R15). -/
def reactionRows (s : State) (a : Arrivals) : Reactor → List Instr
  | .steep v =>
    ((s.came? a (steepSite v) .delivered).map (Instr.fillDelivered v)).toList ++
      (((s.came? a (steepSite v) .level).bind Level.ofCode?).map (Instr.drainEnd v)).toList
  | .kiln k => ((s.came? a (kilnSite k) .ton).map (Instr.kilnTrip k)).toList
  | .turner => []
  | .peat =>
    match (s.came? a .peat .fireState).bind Fire.ofCode? with
    | some .out => [.peatOut] | some .burning => [.fireBurning] | none => []
  | .sampler =>
    (((s.came? a .sampler .presenceLow).bind presenceMask?).map (Instr.presenceEvent false)).toList ++
      (((s.came? a .sampler .presenceHigh).bind presenceMask?).map (Instr.presenceEvent true)).toList ++
      match (s.came? a .sampler .drawStatus).bind DrawStatus.ofCode? with
      | some .done => [.drawDone] | some .failed => [.drawFailed] | some .idle => [.clearingEnd] | some .drawing => [] | none => []
  | .lots =>
    (s.lots.filter fun l => s.bedCame a l.place && s.bedEmpty l.place).flatMap fun l =>
      [.transferCompletion l.number, .lotOutCompletion l.number]

/-- What the turner makes of a position and a motion of one cycle, its position first (log 41). A position is the known position from then
on: an IDLE turner takes a head, and a travel at its target with the motion STOPPED ends, as it does when the motion comes STOPPED there; a
motion of FAULT puts it in FAULT, or is its cause; nothing else comes of them (R70, R75, R76, R80). -/
def turnerReacted (s t : State) (position : Option RailPos) (motion : Option Motion) : Prop :=
  let ends := fun p : RailPos =>
    s.turner.state = .travelling ∧ s.turner.operation ≠ none ∧ s.turner.target = p ∧ s.motion? = some .stopped
  let faulted : List Instr := if motion = some .fault then [.turnerStationFault] else []
  (∀ p, position = some p → motion = some .stopped → s.runs t [.travelEnd p]) ∧
  (∀ p c, position = some p → motion ≠ some .stopped → c = s.withTurner { s.turner with knownPosition := some p } →
    (s.turner.state = .idle → c.runs t (.takeHead :: faulted)) ∧
    (s.turner.state ≠ .idle → ¬ends p → c.runs t faulted) ∧
    (ends p → ∃ m, s.runs m [.travelEnd p] ∧ t = m.withLink s.link)) ∧
  (position = none →
    (∀ p, motion = some .stopped → s.position? = some p → ends p → ∃ m, s.runs m [.travelEnd p] ∧
      t = (m.withLink s.link).withTurner { m.turner with knownPosition := s.turner.knownPosition }) ∧
    ((motion = some .stopped → ∀ p, s.position? = some p → ¬ends p) → s.runs t faulted))

/-! ### Pots -/

/-- A position of a mask that tells the sampler nothing new: a pot that stays, or one still away (R118). -/
def quietPot (s : State) (p : PotId) (present : Bool) : Prop :=
  (present = true ∧ (s.pot p).state ≠ .absent) ∨ (present = false ∧ (s.pot p).state = .absent)

end State

end Sys2Proof.Machine
end

