-- ==== Sys2Proof/WellFormed.lean ====
section
/-! DEFINITION. Well-formed commands: operands that fit the fields their frame gives them (12.1, R170, R171), lists whose payloads
keep to 240 bytes (R162; a slot plan's need not, log 24), and readings, positions and stores' contents of the ranges the manual gives. A well-formed command may still be
refused by its block. -/

namespace Sys2Proof.WellFormed

/-- A number fits so many bytes. -/
def fits (size n : Nat) : Bool := decide (n < 256 ^ size)

/-- A number that may be omitted fits so many bytes and is not the omitted value (R170). -/
def fitsOpt (size : Nat) (x : Option Nat) : Bool := x.all fun n => decide (n + 1 < 256 ^ size)

/-- A signed 2-byte number that may be omitted: the omitted value is that of −1. -/
def fitsInt (x : Option Int) : Bool := x.all fun z => decide (-32768 ≤ z ∧ z ≤ 32767 ∧ z ≠ -1)

/-- A plant minute that may be omitted. -/
def fitsMinute (x : Option Minute) : Bool := fitsOpt 4 (x.map BitVec.toNat)

/-- A station position, 1..30 (4.5). -/
def isPosition (p : Nat) : Bool := decide (1 ≤ p ∧ p ≤ 30)

/-- A VALUE reading, −32,768..32,767 (R152). -/
def isValue (z : Int) : Bool := decide (-32768 ≤ z ∧ z ≤ 32767)

/-- What a loss left: 32 bytes of a record, and no more finished places than the store has (R172). -/
def lossWf (x : LossLeft) : Bool := x.front.all (fun b => b.length == 32) && decide (x.formatDone ≤ 4097)

/-- No number twice. -/
def distinct : List Nat → Bool
  | [] => true
  | x :: rest => !(rest.contains x) && distinct rest

/-- A burst carries each position at most once (R155). -/
def burstWf (b : Burst) : Bool := b.stations.all (fun t => isPosition t.position) && distinct (b.stations.map (·.position))

def restoreWf (f : RestoreFields) : Bool :=
  fits 2 f.lot && fits 1 f.place && fits 1 f.stage && fits 1 f.state && fits 2 f.massIn && fits 2 f.w && fits 2 f.wcap && fits 2 f.target &&
  fits 4 f.minSteep && fits 4 f.minBox && fits 2 f.turnCount && fitsMinute f.lastTurn && fitsOpt 4 f.sinceTurn &&
  fits 2 f.aborted && fits 2 f.spray && fitsOpt 2 f.wload && fitsInt f.d0 && fitsOpt 2 f.q && fitsMinute f.breakMinute &&
  fits 2 f.peatTarget && fits 2 f.peatGiven && fitsOpt 2 f.shortfall && fitsOpt 4 f.steepOut && fitsOpt 4 f.kilnOut

def stepWf (f : StepFields) : Bool := fits 1 f.kind && fits 2 f.minutes && fits 2 f.litres

def boxWf (f : BoxFields) : Bool :=
  fitsOpt 2 f.target && fitsOpt 2 f.minInterval && fitsOpt 2 f.maxInterval && fitsOpt 2 f.spreadThreshold &&
  fitsInt f.highMean && fitsInt f.tset && fitsOpt 2 f.kf && fitsOpt 2 f.fbase && fitsOpt 2 f.fmin && fitsOpt 2 f.fmax

def turnerWf (f : TurnerFields) : Bool := fitsOpt 2 f.travel && fitsOpt 2 f.pass && f.spray.toList.all (fitsOpt 2)

def kilnWf (f : KilnFields) : Bool :=
  fitsInt f.tfd && fitsOpt 2 f.qb && fitsOpt 2 f.nb && fitsOpt 2 f.rr && fitsInt f.tc && fitsOpt 2 f.hc &&
  fitsOpt 2 f.wfinal && fitsOpt 2 f.wend && fitsInt f.tcool && fitsOpt 2 f.maxFreeDry && fitsInt f.tmax

def changeWf (c : EnableChange) : Bool := fits 1 c.source && fits 1 c.category

def slotWf (x : SlotFields) : Bool := fits 1 x.reading && fits 1 x.format

def stationWf (t : StationFields) : Bool :=
  fits 2 t.position && fits 2 t.serial.toNat && decide (t.ups.length < 256) && t.ups.all slotWf && decide (t.downs.length < 256) && t.downs.all (fits 1)

end Sys2Proof.WellFormed

namespace Sys2Proof

open WellFormed

/-- A well-formed command. -/
def Instr.wf : Instr → Bool
  | .powerOn _ => true
  | .resetInput left _ => lossWf left
  | .plantMinute _ => true
  | .immersionEnd _ => true | .airRestEnd _ => true | .fillTimeout _ => true
  | .fillDelivered _ reading => isValue reading
  | .immersionStart _ => true | .drainEnd _ _ => true | .roundStart => true | .boxMinutesTarget _ => true | .takeHead => true
  | .travelEnd _ => true | .passComplete => true | .travelLate => true | .turnerStationFault => true | .turnerRecovery => true
  | .kilnBreak _ => true | .breakLate _ => true | .curingEnd _ => true | .kilnStandby _ => true
  | .kilnTrip _ ton => decide (-400 ≤ ton ∧ ton ≤ 1500)
  | .spellEnd => true | .switchoverSettle => true | .peatOut => true | .fireBurning => true
  | .transferLate lot => fits 2 lot
  | .transferCompletion lot => fits 2 lot
  | .lotOutCompletion lot => fits 2 lot
  | .drawStart => true | .drawDone => true | .drawFailed => true | .drawTimeout => true | .presenceEvent _ _ => true
  | .clearingEnd => true | .startUpScan => true | .potRebuild => true | .entryStored => true | .storeWriteFault => true
  | .formatComplete => true | .hornPhaseEnd => true | .linkCyclePeriod => true | .rollCallAnswer _ => true
  | .rollCallEnd => true | .planIntoForce _ _ => true
  | .runCycleAccepted burst _ => burstWf burst
  | .shortChain mark burst _ => isPosition mark && burstWf burst
  | .stationLost position => isPosition position
  | .linkDown => true | .triedCycle => true
  | .triedCycleAccepted mark burst _ => mark.all isPosition && burstWf burst
  | .badFrame => true | .byteGapTimeout => true | .frameWhileAnswering => true | .unknownKindRequest _ => true
  | .replySent => true
  | .setClock _ => true
  | .lotIn lot place massIn w wcap target peat =>
    fits 2 lot && fits 1 place && fits 2 massIn && fits 2 w && fitsOpt 2 wcap && fitsOpt 2 target && fitsOpt 2 peat
  | .restoreLot f => restoreWf f
  | .transfer lot dest _ outMass => fits 2 lot && fits 1 dest && fitsOpt 2 outMass
  | .transferAbort lot => fits 2 lot
  | .transferSettings timeout => fits 2 timeout
  | .lotQuery (.lot n) => fits 2 n
  | .lotQuery (.place n) => fits 2 n
  | .lotList => true
  | .steepProgram place steps _ _ => fits 1 place && decide (steps.length ≤ 39) && steps.all stepWf
  | .steepSettings place timeout => fits 1 place && fits 2 timeout
  | .steepStart place => fits 1 place
  | .steepHalt place => fits 1 place
  | .steepResume place => fits 1 place
  | .steepQuery place => fits 1 place
  | .waterSettings allowance period => fitsOpt 4 allowance && fitsOpt 2 period
  | .waterQuery => true
  | .zoneMask place zones => fits 1 place && decide (zones.length ≤ 119) && zones.all (fits 2)
  | .boxSettings place f => fits 1 place && boxWf f
  | .boxHalt place demand => fits 1 place && fitsOpt 2 demand
  | .boxResume place => fits 1 place
  | .boxQuery place => fits 1 place
  | .turnNow place => fits 1 place
  | .turnCancel place => fits 1 place
  | .turnerSettings f => turnerWf f
  | .turnerQuery => true
  | .kilnProgram place f => fits 1 place && kilnWf f
  | .kilnForcePhase place phase => fits 1 place && fits 1 phase
  | .kilnTripClear place => fits 1 place
  | .kilnQuery place => fits 1 place
  | .peatSettings spell switchover cutoff => fitsOpt 2 spell && fitsOpt 2 switchover && fitsOpt 2 cutoff
  | .peatQuery => true
  | .samplerMode mode => fits 1 mode
  | .samplerQuery => true
  | .journalRead start count => fits 4 start && fits 1 count
  | .journalRelease through => fits 4 through
  | .journalMark _ => true
  | .journalFormat => true
  | .alarmEnables changes => decide (changes.length ≤ 79) && changes.all changeWf
  | .alarmEnablesQuery source => fitsOpt 1 source
  | .alarmAck .all => true
  | .alarmAck (.one source kind) => fits 1 source && fits 1 kind
  | .alarmQuery start => fits 2 start
  | .hornSettings f => fitsOpt 2 f.hon && fitsOpt 2 f.hoff
  | .rollCall => true
  | .bindStation site serial => fits 1 site && fitsOpt 2 (serial.map BitVec.toNat)
  | .slotPlan stations => decide (stations.length < 256) && stations.all stationWf
  | .linkRestart => true
  | .linkSettings _ => true
  | .linkQuery start => fits 2 start
  | .nextNotice => true
  | .setNoticeMask _ => true
  | .status => true
  | .identify => true
  | .saveSettings => true
  | .saveDone _ => true
  | .restart => true
  | .restartReset _ => true
  | .powerLoss left => lossWf left
  | .resetInputRelease _ => true
  | .startByteReceived _ => true

end Sys2Proof
end

