-- ==== Sys2Proof/Certificates/Slice0/Obligations.lean ====
section
/-! DEFINITION. The statements for the provers. -/

open Sys2Proof Sys2Proof.Machine

/-! ### The machine -/

/-- The command at the front of the queue runs on the state with the queue's rest; an empty queue idles (the model's choice,
log 21). -/
def Obligations.StepRunsFrontCommand : Prop :=
  (∀ (c : Instr) (rest : List Instr) (s : State), s.pending = c :: rest → step s = exec c (s.withPending rest)) ∧
  (∀ s : State, s.pending = [] → step s = .next s)

/-- No command touches the queue of waiting commands, and only SET-CLOCK, the minute boundary and a start change the clock; a frame's
bytes may carry a SET-CLOCK (R2). -/
def Obligations.CommandsKeepTheQueueAndTheClock : Prop :=
  (∀ (c : Instr) (s t : State), exec c s = .next t → t.pending = s.pending) ∧
  (∀ (c : Instr) (s t : State), (State.startsAfresh c = false ∨ c = .startUpScan) → (∀ o, c ≠ .plantMinute o) →
    (∀ n, c ≠ .setClock n) → (∀ l, c ≠ .startByteReceived l) → exec c s = .next t → t.clock = s.clock)

/-- Unpowered or held in reset, no command but those of power and of the reset input has an effect (the model's choice, log 28) (R1,
R162). -/
def Obligations.StoppedPartIgnoresCommands : Prop :=
  ∀ (c : Instr) (s : State), s.running = false → State.reachesStopped c = false → exec c s = .next s

/-- The capacities of the lot table, the alarm list and the notice queue, and the journal store's canonical form, are kept by every
step (R4, R139, R165, R172). -/
def Obligations.StepKeepsCapacitiesAndTheStore : Prop :=
  (∀ s t : State, s.bounded = true → step s = .next t → t.bounded = true) ∧
  (∀ s t : State, s.storeSound = true → step s = .next t → t.storeSound = true)

/-- No step takes a lot's W above its ceiling, its peat given above its peat target, or, where the command it runs is well-formed,
another field to which R3 gives a range out of that range: the number, mass in, ceiling, steep target, minutes in steep and in box, turn
count, minutes since the last turn, aborted passes, peat target, ratio, shortfall and out mass; and while a lot stays in a kiln its W
does not increase (R3, R6, R109). A restored ratio and shortfall are clamped to R3's ranges, and a minute count at its end is free (the
model's choices, logs 53 and 4). -/
def Obligations.StepKeepsLotsWithinTheirLimits : Prop :=
  (∀ s t : State, s.moistureSound = true → step s = .next t → t.moistureSound = true) ∧
  (∀ s t : State, s.occupancySound → s.peatSound = true → step s = .next t → t.peatSound = true) ∧
  (∀ s t : State, (∀ l ∈ s.lots, l.inRange) → (∀ c, s.pending.head? = some c → c.wf = true) → step s = .next t →
    ∀ l ∈ t.lots, l.inRange) ∧
  (∀ s t : State, s.occupancySound → s.turnerSound → step s = .next t →
    ∀ l ∈ s.lots, ∀ m ∈ t.lots, m.number = l.number → (∃ k, l.place = .kiln k) → (∃ k, m.place = .kiln k) → m.w ≤ l.w)

/-- Lot numbers stay distinct and no vessel is occupied twice; the live lots stay in ascending lot number (R4, R5, R22). -/
def Obligations.StepKeepsOneLotPerVessel : Prop :=
  (∀ s t : State, s.occupancySound → step s = .next t → t.occupancySound) ∧
  (∀ s t : State, s.lotsOrdered → step s = .next t → t.lotsOrdered)

/-- The horn is driven only while an unacknowledged entry stands in a horn-enabled category (R145). -/
def Obligations.StepKeepsHornOnDemandOnly : Prop :=
  ∀ s t : State, s.hornSound = true → step s = .next t → t.hornSound = true

/-- The outlets, gates and idle fans stay those of the vessels' states, and a TRIPPED kiln's burner stays off with its damper closed
(R25, R55, R86, R87, R101). -/
def Obligations.StepKeepsCommandsOfStates : Prop :=
  (∀ s t : State, s.commandsSound → step s = .next t → t.commandsSound) ∧
  (∀ s t : State, s.tripSound → step s = .next t → t.tripSound)

/-- At most one pot is DRAWING, that of the draw in progress (R117). -/
def Obligations.StepKeepsOneDraw : Prop :=
  ∀ s t : State, s.samplerSound → step s = .next t → t.samplerSound

/-- The turn queue keeps the order of R72, with at most one request a box and none for a box whose lot is not TENDING; the operation
stays that of a box flagged engaged, with its lot (R63, R71, R72, R79). -/
def Obligations.StepKeepsTurnQueueOrdered : Prop :=
  (∀ s t : State, s.turnQueueSound → step s = .next t → t.turnQueueSound) ∧
  (∀ s t : State, s.occupancySound → s.turnerSound → step s = .next t → t.turnerSound)

/-- Every setting stays within the range its rule gives, in use, in the settings image and in a copy being saved, and no serial is
bound twice; the roster and every plan held keep to the chain's positions 1 to 30, in position order, with no serial twice (R150, R151,
R153, R164, R167, R168). -/
def Obligations.StepKeepsSettingsInRange : Prop :=
  (∀ s t : State, s.settingsSound → step s = .next t → t.settingsSound) ∧
  (∀ s t : State, s.chainSound → step s = .next t → t.chainSound)

/-- The state after reset meets every invariant above. -/
def Obligations.ResetIsSound : Prop :=
  State.reset.bounded = true ∧ State.reset.storeSound = true ∧ State.reset.moistureSound = true ∧ State.reset.occupancySound ∧
  State.reset.peatSound = true ∧ State.reset.hornSound = true ∧ State.reset.commandsSound ∧ State.reset.tripSound ∧
  State.reset.samplerSound ∧ State.reset.turnQueueSound ∧ State.reset.settingsSound ∧ (∀ l ∈ State.reset.lots, l.inRange) ∧
  State.reset.turnerSound ∧ State.reset.reservationsSound ∧ State.reset.journalSound ∧ State.reset.lotsOrdered ∧
  State.reset.chainSound

/-- Journal numbers only ever rise, but where the part starts afresh or scans its store; and every step but the start-up scan, which
takes what the store holds, keeps the held entries and the outstanding reservations within 4,096 together, the reservations owed to
the transfers, pots and open samples, and the write path in consecutive numbers up to the next (R128 to R130). -/
def Obligations.JournalKeepsItsNumbersAndItsRoom : Prop :=
  (∀ (c : Instr) (s t : State), State.startsAfresh c = false → exec c s = .next t → s.journal.next ≤ t.journal.next) ∧
  (∀ s t : State, s.pending.head? ≠ some .startUpScan → s.occupancySound → s.samplerSound → s.reservationsSound →
    s.journalSound → step s = .next t → t.reservationsSound ∧ t.journalSound)

/-! ### Frames and the port -/

/-- Every request written as a kind and a payload is read back as itself, with every operand at every value its fields admit; the
payloads are laid out as logs 17, 60 (the 2 bytes of a serial) and 62 (a fixed set without a count) say where the manual leaves it open. -/
def Obligations.RequestsAreReadAsWritten : Prop :=
  ∀ (i : Instr) (kind : Nat) (payload : List Byte), i.wf = true → frameOf? i = some (kind, payload) →
    namesRequest kind = true ∧ requestOf? kind payload = some i

/-- A frame whose bytes reach a receiver in HUNT one by one has the effect of its request (R162, R163, R170). -/
def Obligations.FrameHasItsRequestsEffect : Prop :=
  ∀ (i : Instr) (kind : Nat) (payload : List Byte) (s : State), i.wf = true → frameOf? i = some (kind, payload) →
    payload.length ≤ 240 → s.listens = true → s.hunt = s →
    ∃ t, exec (.startByteReceived ((frame (BitVec.ofNat 8 kind) payload).drop 1)) s = .next t ∧ exec i s = .next t

/-- A refused request changes no state; one refused with FULL may have raised JOURNAL-FULL (R164, R129). -/
def Obligations.RefusedRequestsChangeNothing : Prop :=
  ∀ (i : Instr) (kind : Nat) (payload : List Byte) (s t : State) (k : Byte) (r : Reason),
    frameOf? i = some (kind, payload) → s.accepts = true → exec i s = .next t → t.port.reply = some (k, .refused r) →
    k = BitVec.ofNat 8 kind ∧
    (t = s.answer k (.refused r) ∨ (r = .full ∧ t = s.journalFull.answer k (.refused .full)))

/-- Every request frame, and a FRAME-WHILE-ANSWERING, that completes while the port is ANSWERING is discarded: the discarded count
rises by 1 to a largest value of 65,535, the receiver is in HUNT, and nothing else changes. A request served leaves the receiver in HUNT
too, and every step keeps it there while the port is ANSWERING (R162, R163). -/
def Obligations.AnsweringPortDiscards : Prop :=
  (∀ (i : Instr) (s : State), ((frameOf? i).isSome = true ∨ i = .frameWhileAnswering) → s.takesFrames = true →
    s.port.state = .answering →
    exec i s = .next (s.withPort { s.port with
      rx := .hunt, rxLength := 0, rxKind := 0, rxPayload := [], rxCheck := []
      discarded := if s.port.discarded < 65535 then s.port.discarded + 1 else s.port.discarded })) ∧
  (∀ (i : Instr) (s : State), (frameOf? i).isSome = true → s.accepts = true →
    ∃ t, exec i s = .next t ∧ t.port.state = .answering ∧ t.port.rx = .hunt ∧ t.port.rxLength = 0 ∧ t.port.rxKind = 0 ∧
      t.port.rxPayload = [] ∧ t.port.rxCheck = []) ∧
  (∀ s t : State, (s.port.state = .answering → s.port.rx = .hunt) → step s = .next t →
    t.port.state = .answering → t.port.rx = .hunt)

/-- The port's own events: a bad frame and a gap outside HUNT put the receiver in HUNT with nothing gathered and count; a kind that
names no request is answered MALFORMED; the last byte of a reply makes the port READY (R162, R163). -/
def Obligations.PortEventsAct : Prop :=
  ∀ (s : State), s.takesFrames = true →
    (∀ x : Port, s.port.state = .ready → x = { s.port with
      rx := .hunt, rxLength := 0, rxKind := 0, rxPayload := [], rxCheck := []
      badFrames := if s.port.badFrames < 65535 then s.port.badFrames + 1 else s.port.badFrames } →
      exec .badFrame s = .next (s.withPort x) ∧ (s.port.rx ≠ .hunt → exec .byteGapTimeout s = .next (s.withPort x))) ∧
    (∀ kind : Byte, namesRequest kind.toNat = false → s.port.state = .ready →
      exec (.unknownKindRequest kind) s = .next (s.answer kind (.refused .malformed))) ∧
    (s.port.state = .answering → s.port.restart ≠ .replying →
      exec .replySent s = .next (s.withPort { s.port with state := .ready, reply := none })) ∧
    (s.port.state = .answering → s.port.restart = .replying →
      exec .replySent s = .next (s.withPort { s.port with state := .ready, reply := none, restart := .draining }))

/-! ### Power and the plant minute -/

/-- Each start gives every block its values after POWER-ON and RESTART, with the settings of a usable image and the defaults otherwise,
and leaves the stores as the row says; a loss of power leaves the part unpowered with no lot, and keeps the stores: the record under way
as the loss left it, a format with the base record written and so many entry places erased, the image as a save under way left it. That a
failed write leaves its record place as it was, also where the loss comes before the retry (log 25), what an unpowered or held part is
(log 28), the values that no rule gives a start (log 48) and that a format erases its places whole and in ascending order (log 67) are the
model's choices (R4, R130, R135, R165, R167 to R169). -/
def Obligations.StartsGiveStartValuesAndLossKeepsTheStores : Prop :=
  (∀ (s : State) (answers : Bool) (left : LossLeft),
    (∃ t, exec (.powerOn answers) s = .next t ∧
      t.startedWith (s.eeprom.load answers) (!s.eeprom.usable answers) .powerOn ∧ t.powered = true ∧
      t.inReset = s.inReset ∧ t.store = s.store ∧ t.eeprom = s.eeprom) ∧
    (s.powered = true → ∃ t, exec (.resetInput left answers) s = .next t ∧
      t.startedWith ((s.eepromAfter left.image).load answers) (!(s.eepromAfter left.image).usable answers) .powerOn ∧
      t.powered = true ∧ t.inReset = true ∧ t.store = s.storeAfterLoss left ∧ t.eeprom = s.eepromAfter left.image) ∧
    (s.powered = true → s.inReset = true → ∃ t, exec (.resetInputRelease answers) s = .next t ∧
      t.startedWith (s.eeprom.load answers) (!s.eeprom.usable answers) .powerOn ∧ t.powered = true ∧ t.inReset = false ∧
      t.store = s.store ∧ t.eeprom = s.eeprom) ∧
    (s.running = true → s.port.restart = .draining → s.writePath = [] → s.journal.state ≠ .formatting →
      ∃ t, exec (.restartReset answers) s = .next t ∧
      t.startedWith (s.eeprom.load answers) (!s.eeprom.usable answers) .restart ∧ t.powered = true ∧ t.inReset = false ∧
      t.store = s.store ∧ t.eeprom = s.eeprom)) ∧
  (∀ (s : State) (left : LossLeft), s.powered = true →
    ∃ t, exec (.powerLoss left) s = .next t ∧ t.powered = false ∧ t.inReset = s.inReset ∧ t.lots = [] ∧
      t.journal = Journal.reset ∧ t.alarms = Alarms.reset ∧ t.store = s.storeAfterLoss left ∧
      t.eeprom = s.eepromAfter left.image ∧
      (s.port.saving = none → t.eeprom = s.eeprom) ∧
      (∀ i rest, s.journal.queue = i :: rest → s.journal.writing = true → ∀ bytes, left.front = some bytes →
        t.store = Store.writeRecord s.store i.place bytes) ∧
      (∀ i rest, s.journal.queue = i :: rest → left.front = none → t.store = s.store) ∧
      (s.journal.queue = [] → s.journal.state ≠ .formatting ∨ left.formatDone = 0 → t.store = s.store) ∧
      (s.storeSound = true → s.journal.queue = [] → s.journal.state = .formatting → 1 ≤ left.formatDone → left.formatDone ≤ 4097 →
        Store.record t.store 0 = baseRecord s.journal.next ∧
        ∀ p, 1 ≤ p → p ≤ 4096 → Store.record t.store p =
          if p < left.formatDone then List.replicate 32 0xFF#8 else Store.record s.store p))

/-- A minute boundary raises the count by 1, wrapping, and delivers the event to every receiver once, in the order given as far
as it goes (R1, R2). -/
def Obligations.PlantMinuteReachesEveryReceiverOnce : Prop :=
  ∀ (order : List Receiver) (s : State), s.running = true →
    ∃ all : List Receiver, all.Nodup ∧ (∀ r, r ∈ all) ∧ (order.Nodup → order <+: all) ∧
      exec (.plantMinute order) s =
        .next (all.foldl State.receive (s.withClock { s.clock with minutes := s.clock.minutes + 1 }))

/-- A plant minute of a steep that holds a lot. The lot's minutes rise, and W takes the rounded-up share of the gap by the fresh level
and the factor of Tw, never passing the ceiling. STEEP-BLIND is raised by a stale level and ended by fresh readings. A running fill counts
its minute and halts at its timeout; a fill with a stale reading halts, a queued one withdrawing its request. IMMERSED counts a step
minute and ends early at the lot's target or at the step's minutes; AIR-REST counts one and ends at the step's minutes; another state
stays. That the timeout is tested before the readings is the model's choice (log 40), and so is a fill posted before its readings are
tested (log 10) (R31, R33, R35, R37, R38, R41). -/
def Obligations.SteepMinuteTakesUpMoisture : Prop :=
  (∀ (s : State) (v : SteepId) (l : Lot), s.occupancySound → l ∈ s.lots → l.place = .steep v → l.minSteep < 4294967295 →
    l.w ≤ l.wcap →
    ∃ m, (s.receive (.steep v)).lot? l.number = some m ∧ m.minSteep = l.minSteep + 1 ∧ m.w ≤ m.wcap ∧ m.wcap = l.wcap ∧
      ∀ tw f, (s.held? (steepSite v) .tw).getD 50 = tw → f = 8 + (max 50 (min 250 tw) - 50) * 24 / 200 →
        ((s.level? v = some .covered → (m.w : Int) = l.w + ((l.wcap - l.w) * f + 4095) / 4096) ∧
         (s.level? v = some .grainDry → (m.w : Int) = l.w + ((l.wcap - l.w) * f + 16383) / 16384) ∧
         (s.level? v = some .empty ∨ s.level? v = none → m.w = l.w))) ∧
  (∀ (s : State) (v : SteepId), s.lotAt? (.steep v) = none → s.receive (.steep v) = s) ∧
  ∀ (s : State) (v : SteepId) (l : Lot), s.occupancySound → s.lotAt? (.steep v) = some l →
    let u := s.receive (.steep v)
    let x := s.steep v
    let blind := fun t : State => t.stands (.vessel (.steep v)) .steepBlind
    let fresh := s.isFresh (steepSite v) .level && s.isFresh (steepSite v) .delivered
    let halted := fun (minutes owed : Nat) => { x with
      state := .halted, held := some .filling, fillStage := .none, remainder := some owed, fillMinutes := minutes
      valveOpen := false, outlet := .closed, air := .off }
    let drains := fun skip : Bool => { x with
      state := .draining, skip := skip, stepMinutes := x.stepMinutes + 1, valveOpen := false, outlet := .drain, air := .off }
    let counted := { x with stepMinutes := x.stepMinutes + 1 }
    s.otherLots u l.number ∧ s.otherSteeps u v ∧ s.notified u ∧
    u = { s with lots := u.lots, steeps := u.steeps, water := u.water, alarms := u.alarms, port := u.port } ∧
    (s.level? v = none → blind u = true) ∧
    (s.level? v ≠ none → fresh = true → blind u = false) ∧
    (s.level? v ≠ none → fresh = false → x.state ≠ .filling → x.state ≠ .airRest → blind u = blind s) ∧
    (x.state ≠ .airRest → ¬ (x.state = .filling ∧ x.fillStage = .queued ∧ fresh = false) → u.water = s.water) ∧
    (x.state = .filling → x.fillStage = .running → ∀ owed,
      owed = (if x.delivered then 0 else x.fillLitres - s.litresDelivered v) →
      (x.timeoutInForce ≤ x.fillMinutes + 1 →
        u.steep v = halted (x.fillMinutes + 1) owed ∧ u.stands (.vessel (.steep v)) .fillLate = true) ∧
      (x.fillMinutes + 1 < x.timeoutInForce →
        (fresh = true → u.steep v = { x with fillMinutes := x.fillMinutes + 1 }) ∧
        (fresh = false → u.steep v = halted (x.fillMinutes + 1) owed ∧ blind u = true))) ∧
    (x.state = .filling → x.fillStage = .queued →
      (fresh = true → u.steep v = x) ∧
      (fresh = false → u.steep v = halted x.fillMinutes x.fillLitres ∧ blind u = true ∧
        u.water = { s.water with queue := s.water.queue.filter fun r => decide (r.steep ≠ v) })) ∧
    (x.state = .immersed → ∀ m y early, u.lotAt? (.steep v) = some m → s.currentStep? v = some y →
      early = ((s.steepProgram v).earlyFinish && decide (m.target ≤ m.w)) →
      (early = true ∨ y.minutes ≤ x.stepMinutes + 1 → u.steep v = drains early) ∧
      (early = false → x.stepMinutes + 1 < y.minutes → u.steep v = counted)) ∧
    (x.state = .airRest → ∀ y, s.currentStep? v = some y →
      (x.stepMinutes + 1 < y.minutes → u.steep v = counted ∧ u.water = s.water) ∧
      (s.running = true → y.minutes ≤ x.stepMinutes + 1 → ∃ c : State, c.steep v = counted ∧ s.otherSteeps c v ∧
        c = { s with lots := u.lots, steeps := c.steeps, alarms := c.alarms, port := c.port } ∧
        exec (.airRestEnd v) c = .next u)) ∧
    (x.state ≠ .filling → x.state ≠ .immersed → x.state ≠ .airRest → u.steep v = x)

/-! ### Notices and alarms -/

/-- A notice of an enabled kind takes the number and joins the queue, or is lost to a full one; one of a disabled kind leaves no
trace (R165). -/
def Obligations.NoticesAreNumbered : Prop :=
  ∀ (s : State) (body : NoticeBody),
    (s.settings.noticeMask[body.kind.index] = false → s.notify body = s) ∧
    (s.settings.noticeMask[body.kind.index] = true → s.port.notices.length < 32 → s.notify body = s.withPort { s.port with
      notices := s.port.notices ++ [{ number := s.port.noticeNumber, minute := s.clock.minutes, body := body }]
      noticeNumber := s.port.noticeNumber + 1 }) ∧
    (s.settings.noticeMask[body.kind.index] = true → 32 ≤ s.port.notices.length → s.notify body = s.withPort { s.port with
      noticeNumber := s.port.noticeNumber + 1, noticeOverflow := true })

/-- A condition reported raised joins the standing set; with its enable enabled it makes an entry, or makes a CLEARED-UNACK one
new at the back, and an active entry is left as it stands; a full list evicts the CLEARED-UNACK entry nearest the front, or loses
the alarm and sets the overflow flag. A new alarm has its ALARM-RAISED notice and restarts the horn where its category is
horn-enabled; anything else leaves the notices and the horn as they were (R138, R140, R141, R144, R145). -/
def Obligations.RaisingFollowsTheTable : Prop :=
  ∀ (s : State) (x : Source) (k : AlarmKind),
    let fresh : AlarmEntry := { source := x, kind := k, raised := s.clock.minutes, state := .activeUnack }
    let t := s.raise x k
    t.stands x k = true ∧
    t = { s with alarms := t.alarms, port := t.port } ∧
    (s.alarmEnabled x k.category = false → s.alarmQuiet t ∧ t.alarms.overflow = s.alarms.overflow) ∧
    (s.alarmEnabled x k.category = true →
      (∀ e, s.alarmEntry? x k = some e → e.state ≠ .clearedUnack → s.alarmQuiet t ∧ t.alarms.overflow = s.alarms.overflow) ∧
      (∀ e, s.alarmEntry? x k = some e → e.state = .clearedUnack → s.stands x k = true →
        s.alarmQuiet t ∧ t.alarms.overflow = s.alarms.overflow) ∧
      (∀ e, s.alarmEntry? x k = some e → e.state = .clearedUnack → s.stands x k = false →
        t.alarms.entries = s.alarms.entries.filter (fun y => !(y.names x k)) ++ [fresh] ∧ s.alarmTold t x k ∧
        t.alarms.overflow = s.alarms.overflow) ∧
      (s.alarmEntry? x k = none → s.alarms.entries.length < 48 →
        t.alarms.entries = s.alarms.entries ++ [fresh] ∧ s.alarmTold t x k ∧ t.alarms.overflow = s.alarms.overflow) ∧
      (s.alarmEntry? x k = none → 48 ≤ s.alarms.entries.length →
        ∀ front e back, s.alarms.entries = front ++ e :: back → e.state = .clearedUnack →
          (∀ y ∈ front, y.state ≠ .clearedUnack) →
          t.alarms.entries = front ++ back ++ [fresh] ∧ s.alarmTold t x k ∧ t.alarms.overflow = s.alarms.overflow) ∧
      (s.alarmEntry? x k = none → 48 ≤ s.alarms.entries.length → (∀ y ∈ s.alarms.entries, y.state ≠ .clearedUnack) →
        s.alarmQuiet t ∧ t.alarms.overflow = true))

/-- A condition that stands and is reported ended leaves the standing set; its ACTIVE-ACK entry leaves the list, its ACTIVE-UNACK
entry becomes CLEARED-UNACK in its place, each with an ALARM-CLEARED notice; a CLEARED-UNACK entry or none is left (R142). -/
def Obligations.EndingFollowsTheRule : Prop :=
  ∀ (s : State) (x : Source) (k : AlarmKind),
    let t := s.ended x k
    t.stands x k = false ∧
    t = { s with alarms := t.alarms, port := t.port } ∧
    (s.stands x k = true →
      (s.alarmEntry? x k = none → t.alarms.entries = s.alarms.entries ∧ t.port = s.port) ∧
      (∀ e, s.alarmEntry? x k = some e →
        (e.state = .clearedUnack → t.alarms.entries = s.alarms.entries ∧ t.port = s.port) ∧
        (e.state = .activeAck → t.alarms.entries = s.alarms.entries.filter (fun y => !(y.names x k)) ∧
          t.port = (s.notify (.alarmCleared x k)).port) ∧
        (e.state = .activeUnack → t.alarms.entries =
            s.alarms.entries.map (fun y => if y.names x k then { y with state := .clearedUnack } else y) ∧
          t.port = (s.notify (.alarmCleared x k)).port)))

/-- The rows of the alarms: an acknowledgement of ALL and of one entry, the enables changed one by one, one changed to enabled letting in
at once what stands, the horn's settings clamped and stored with its demand re-tested, the end of a horn phase, and the horn's plant
minute, which counts out of IDLE and ends the phase that has run its length. That ALARM-ENABLES' reply has a clamped flag, always clear
(log 19), that its count is that of the enables whose value differs after it, and that a change to enabled of an enable that stands so
lets in what stands too (log 20), that HORN-SETTINGS' four enables go without a count (log 62), and that with Hoff 0 the ON phase keeps
its length and its count returns to 0 (log 15) are the model's choices, and so is MALFORMED for a list of no change or of more than 40,
which R140 does not allow and gives no reason for (log 17) (R140, R141, R143 to R146, R163). -/
def Obligations.AlarmRowsAct : Prop :=
  ∀ (s : State),
    (s.accepts = true → exec (.alarmAck .all) s = .next ((s.withAlarms { s.alarms with
      entries := (s.alarms.entries.filter fun e => e.state != .clearedUnack).map fun e => { e with state := .activeAck }
      horn := .idle, hornMinutes := 0 }).answer 0x52#8 (.done [.h (s.alarms.entries.countP (·.state == .activeUnack)),
        .h (s.alarms.entries.countP (·.state == .clearedUnack))]))) ∧
    (∀ (x : Source) (k : AlarmKind) (front back : List AlarmEntry) (e : AlarmEntry), s.accepts = true →
      s.alarms.entries = front ++ e :: back → e.names x k = true → (∀ y ∈ front ++ back, y.names x k = false) →
      ∃ u, exec (.alarmAck (.one x.code k.code)) s = .next (u.answer 0x52#8
          (.done [.h (if e.state = .activeUnack then 1 else 0), .h (if e.state = .clearedUnack then 1 else 0)])) ∧
        u.alarms.entries = front ++ (if e.state = .clearedUnack then [] else [{ e with state := .activeAck }]) ++ back ∧
        u.alarms.standing = s.alarms.standing ∧ u.alarms.overflow = s.alarms.overflow ∧ s.hornFollows u ∧
        u = { s with alarms := u.alarms }) ∧
    (∀ (x : Source) (k : AlarmKind), s.accepts = true → s.alarmEntry? x k = none →
      exec (.alarmAck (.one x.code k.code)) s = .next (s.answer 0x52#8 (.refused .state))) ∧
    (∀ source kind, s.accepts = true → Source.ofCode? source = none ∨ AlarmKind.ofCode? kind = none →
      exec (.alarmAck (.one source kind)) s = .next (s.answer 0x52#8 (.refused .malformed))) ∧
    (∀ changes : List EnableChange, s.accepts = true →
      (changes.length = 0 ∨ 40 < changes.length ∨
        ∃ c ∈ changes, Source.ofCode? c.source = none ∨ Category.ofCode? c.category = none) →
      exec (.alarmEnables changes) s = .next (s.answer 0x50#8 (.refused .malformed))) ∧
    (∀ (x : Source) (c : Category) (enabled : Bool), s.accepts = true →
      (enabled = false ∨ ∀ k : AlarmKind, k.category = c → s.stands x k = false) → ∃ (u : State) (n : Int),
      exec (.alarmEnables [{ source := x.code, category := c.code, enabled := enabled }]) s =
        .next (u.answer 0x50#8 (.done [.flag false, .h n])) ∧
      u.alarmEnabled x c = enabled ∧ (∀ y d, (y, d) ≠ (x, c) → u.alarmEnabled y d = s.alarmEnabled y d) ∧
      n = (if s.alarmEnabled x c = enabled then 0 else 1) ∧
      u = { s with settings := { s.settings with disabledAlarms := u.settings.disabledAlarms } }) ∧
    (∀ (x : Source) (k : AlarmKind) (again : Bool), s.accepts = true → s.alarms.standing = [⟨x, k⟩] → ∃ (u : State) (n : Int),
      exec (.alarmEnables ({ source := x.code, category := k.category.code, enabled := true } ::
        if again then [] else [{ source := x.code, category := k.category.code, enabled := false }])) s =
        .next (u.answer 0x50#8 (.done [.flag false, .h n])) ∧
      s.arose u x k ∧ u.alarms.standing = s.alarms.standing ∧
      u.alarmEnabled x k.category = again ∧ (∀ y d, (y, d) ≠ (x, k.category) → u.alarmEnabled y d = s.alarmEnabled y d) ∧
      n = (if s.alarmEnabled x k.category = again then 0 else 1) ∧
      u = { s with settings := { s.settings with disabledAlarms := u.settings.disabledAlarms }
                   alarms := u.alarms, port := u.port }) ∧
    (∀ f : HornFields, s.accepts = true → ∃ u clamped, exec (.hornSettings f) s = .next (u.answer 0x54#8 (.done
        ([.flag clamped, .h u.settings.horn.hon, .h u.settings.horn.hoff] ++ u.settings.horn.enables.toList.map Fld.flag))) ∧
      (clamped = true ↔ outside 1 10 f.hon ∨ outside 0 60 f.hoff) ∧
      u.settings.horn.hon = settled 1 10 f.hon s.settings.horn.hon ∧
      u.settings.horn.hoff = settled 0 60 f.hoff s.settings.horn.hoff ∧
      (∀ c : Fin 4, u.settings.horn.enables[c] = f.enables[c].getD s.settings.horn.enables[c]) ∧
      s.hornFollows u ∧ u.alarms.entries = s.alarms.entries ∧ u.alarms.standing = s.alarms.standing ∧
      u.alarms.overflow = s.alarms.overflow ∧
      u = { s with settings := { s.settings with horn := u.settings.horn }, alarms := u.alarms }) ∧
    (s.running = true → s.alarms.hornLength ≤ s.alarms.hornMinutes →
      (s.alarms.horn = .off → exec .hornPhaseEnd s = .next (s.withAlarms { s.alarms with
        horn := .on, hornMinutes := 0, hornLength := s.settings.horn.hon })) ∧
      (s.alarms.horn = .on → s.settings.horn.hoff ≠ 0 → exec .hornPhaseEnd s = .next (s.withAlarms { s.alarms with
        horn := .off, hornMinutes := 0, hornLength := s.settings.horn.hoff })) ∧
      (s.alarms.horn = .on → s.settings.horn.hoff = 0 → exec .hornPhaseEnd s = .next (s.withAlarms { s.alarms with
        hornMinutes := 0 }))) ∧
    (s.alarms.horn = .idle → s.receive .horn = s) ∧
    (∀ c : State, s.running = true → s.alarms.horn ≠ .idle →
      c = s.withAlarms { s.alarms with hornMinutes := s.alarms.hornMinutes + 1 } →
      (s.alarms.hornMinutes + 1 < s.alarms.hornLength → s.receive .horn = c) ∧
      (s.alarms.hornLength ≤ s.alarms.hornMinutes + 1 → exec .hornPhaseEnd c = .next (s.receive .horn)))

/-! ### Requests that ask or set -/

/-- A query answers with the fields its rule names, in the order named, and changes nothing but the reply being sent. The numbers of
commands and of enumerated readings, what an absent field carries, the form of ALARM-ENABLES-QUERY's list and the sizes 12.1 leaves open
are the model's choices (logs 7, 17, 52 and 59), and so are a fixed set without a count (log 62), what the 2 bytes of a serial or of the
cycle count carry above 65,535 (log 60), an identical plan taken as in force (log 61), a flag of 1 for a fresh reading (log 64) and a
newest stored number of 0 where every stored entry has been released (log 70).
LOT-LIST gives the live lots in ascending number. JOURNAL-READ gives the head of 12.3 and, for each stored entry from the start upward,
bytes 0 to 29 of its record, or its number and 26 bytes of 0 where the record fails its check (R22, R42, R51, R69, R83, R104, R115, R127,
R132, R147, R161, R166, R171). -/
def Obligations.QueriesAnswerWithoutChange : Prop :=
  ∀ s : State, s.accepts = true →
    (∀ record : Lot → List Fld, record = (fun l =>
        [.h l.number, .b l.place.code, .b l.stage.code, .h l.massIn, .h l.w, .h l.wcap, .h l.target, .w l.minSteep, .w l.minBox,
         .h l.turnCount, .optW (l.lastTurn.map (·.toNat)), .optW l.sinceTurn, .h l.aborted, .h l.spray, .optN l.wload, .optH l.d0,
         .optN l.q, .optW (l.breakMinute.map (·.toNat)), .optFlag (l.breakMinute.map fun _ => l.forced), .h l.peatTarget,
         .h l.peatGiven, .optN l.shortfall, .optW l.steepOut, .optW l.kilnOut, .flag l.restored,
         .optB (l.transfer.map fun x => if x.flowing then 2 else 1), .optB (l.transfer.map (·.dest.code)),
         .optN (l.transfer.map (·.minutes)), .optN (l.transfer.map (·.reserved))]) →
      (∀ n l, s.lot? n = some l → exec (.lotQuery (.lot n)) s = .next (s.answer 0x16#8 (.done (record l)))) ∧
      (∀ n, s.lot? n = none → exec (.lotQuery (.lot n)) s = .next (s.answer 0x16#8 (.refused .unknownLot))) ∧
      (∀ p : Vessel, exec (.lotQuery (.place p.code)) s =
        .next (s.answer 0x16#8 (.done ((s.occupant? p).elim [] record))))) ∧
    (∀ xs : List Lot, s.lotsOrdered → xs.Pairwise (fun a b => a.number < b.number) → (∀ l, l ∈ xs ↔ l ∈ s.lots) →
      exec .lotList s = .next (s.answer 0x17#8 (.done (.b xs.length :: xs.flatMap fun l =>
        [.h l.number, .b l.place.code, .optB (l.transfer.map fun x => if x.flowing then 2 else 1)])))) ∧
    (∀ v x p, x = s.steep v → p = s.steepProgram v → exec (.steepQuery (Vessel.steep v).code) s =
      .next (s.answer 0x1D#8 (.done (List.flatten [
      [.b x.state.code, .optB (x.held.map SteepState.code), .optN x.stepNumber, .optN (x.stepNumber.map fun _ => x.stepMinutes),
       .flag x.skip, .b x.fillStage.code, .h x.fillLitres, .h (if x.fillStage = .running then s.litresDelivered v else 0),
       .h x.fillMinutes, .optN x.remainder, .h (s.settings.fillTimeouts[v]), .b p.steps.length],
      (p.steps.flatMap fun y => match y with
        | .immerse m l a => [.b 1, .h m, .h l, .flag a]
        | .rest m e => [.b 2, .h m, .h 65535, .flag e]),
      [.flag p.earlyFinish, .flag p.endWithRest, .b (if x.valveOpen then 2 else 1), .b x.outlet.code, .b x.air.code],
      s.readingB (steepSite v) .level, s.readingH (steepSite v) .tw, s.readingH (steepSite v) .delivered,
      [.optN ((s.lotAt? (.steep v)).map (·.number))]])))) ∧
    (∀ x, x = s.water → exec .waterQuery s = .next (s.answer 0x21#8 (.done (List.flatten [
      [.flag x.started, .w x.startMinute.toNat, .h x.period, .w x.allowance, .w x.booked, .h x.grants, .flag x.closed,
       .h ((if x.started = true then x.period - x.counted else 1 : Nat) : Int), .h s.settings.nextPw,
        .w s.settings.nextAw, .b x.queue.length],
      x.queue.flatMap fun r => [.b (Vessel.steep r.steep).code, .h r.litres, .w r.minute.toNat]])))) ∧
    (∀ b x y r, x = s.box b → y = s.boxSettings b → r = s.queuedTurn? b → exec (.boxQuery (Vessel.box b).code) s =
      .next (s.answer 0x2C#8 (.done (List.flatten [
        [.b x.state.code, .optB (x.held.map BoxState.code), .optN ((s.occupant? (.box b)).map (·.number)), .flag x.blind],
        zoneFields x.usable,
        [.optH x.mean, .optH x.spread, .optB (x.need.map (·.reason.code)), .optH (x.need.map (·.urgency)), .flag x.engaged,
         .flag r.isSome, .optB (r.map (·.reason.code)), .h x.fan, .b x.gate.code],
        ((List.finRange 12).flatMap fun z : ZoneId => [.optH (x.zones[z]).value, .h (x.zones[z]).age, .flag (x.zones[z]).isFresh,
          .flag (s.settings.zoneMasks[b])[z]]),
        s.readingH (boxSite b) .airOn, s.readingB (boxSite b) .boxBed, zoneFields (s.settings.zoneMasks[b]),
        [.h y.target, .h y.minInterval, .h y.maxInterval, .h y.spreadThreshold, .h y.highMean, .h y.tset, .h y.kf, .h y.fbase,
         .h y.fmin, .h y.fmax]])))) ∧
    (∀ x o y, x = s.turner → o = s.turner.operation → y = s.settings.turner → exec .turnerQuery s =
      .next (s.answer 0x33#8 (.done (List.flatten [
        [.b x.state.code, .optB (x.cause.map FaultCause.code), .optN (x.knownPosition.map (·.val)),
         .optB (o.map fun a => (Vessel.box a.request.box).code), .optB (o.map (·.request.reason.code)),
         .optH (o.map (·.request.urgency)), .optW (o.map fun a => a.request.minute.toNat), .optN (o.map (·.lot)),
         .optN (if x.state = .travelling then some x.travelMinutes else none),
         .optN (if x.state = .travelling then some x.travelLimit else none),
         .optN (if x.state = .passing then some x.passMinutes else none),
         .optN (if x.state = .passing then some x.passLength else none),
         .optN (if x.state = .passing then some x.sprayInForce else none), .b x.queue.length],
        (x.queue.flatMap fun r => [.b (Vessel.box r.box).code, .h r.urgency, .w r.minute.toNat, .b r.reason.code]),
        [.h x.target.val, .b x.action.code], s.readingH .turner .position, s.readingB .turner .motion,
        [.h y.travel, .h y.pass], (List.finRange 8).map fun b : BoxId => .h y.spray[b]])))) ∧
    (∀ k x l y, x = s.kiln k → l = s.occupant? (.kiln k) → y = s.kilnProgram k → exec (.kilnQuery (Vessel.kiln k).code) s =
      .next (s.answer 0x3B#8 (.done (List.flatten [
        [.b x.phase.code, .optB x.phase.subCode?, .optB (x.remembered.map KilnPhase.code), .optN (l.map (·.number)),
         .optN (l.map (·.w)), .optN (l.bind (·.wload)), .optH (l.bind (·.d0)), .optN (l.bind (·.q)),
         .optW ((l.bind (·.breakMinute)).map (·.toNat)), .optFlag (l.bind fun a => a.breakMinute.map fun _ => a.forced),
         .h x.freeDryMinutes, .h x.breakCount, .h x.ramp, .h x.holdMinutes, .h x.blindMinutes, .flag x.breakLate, .flag x.peatGrant,
         .h x.setpoint, .b x.gate.code, .b (if x.damperOpen then 1 else 2)],
        s.readingH (kilnSite k) .ton, s.readingH (kilnSite k) .toff, s.readingB (kilnSite k) .kilnBed,
        s.readingB (kilnSite k) .burner,
        [.optH ((s.held? (kilnSite k) .ton).bind fun a => (s.held? (kilnSite k) .toff).map fun b => max 0 (a - b)),
         .h y.tfd, .h y.qb, .h y.nb, .h y.rr, .h y.tc, .h y.hc, .h y.wfinal, .h y.wend, .h y.tcool, .h y.maxFreeDry, .h y.tmax]])))) ∧
    (∀ x y, x = s.peat → y = s.settings.peat → exec .peatQuery s = .next (s.answer 0x41#8 (.done (List.flatten [
      [.b x.state.code, .optB (x.holder.map fun k => (Vessel.kiln k).code),
       .optN (if x.state = .switching then some x.switchMinutes else none),
       .optN (if x.state = .switching then some x.switchTime else none),
       .optN (if x.state = .granted then some x.spellMinutes else none),
       .optN (if x.state = .granted then some x.spellLength else none)],
      ((List.finRange 2).flatMap fun k : KilnId =>
        [.flag x.asking[k], .flag x.requested[k], .optN ((s.occupant? (.kiln k)).map (·.peatGiven)),
         .optN ((s.occupant? (.kiln k)).map (·.peatTarget)),
         .optN ((s.occupant? (.kiln k)).map fun l => l.peatTarget - l.peatGiven)]),
      [.optB (x.route.map fun k => (Vessel.kiln k).code)], s.readingB .peat .fireState, s.readingB .peat .route,
      [.h y.spell, .h y.switchover, .h y.cutoff]])))) ∧
    (∀ x d, x = s.sampler → d = s.sampler.draw → exec .samplerQuery s = .next (s.answer 0x49#8 (.done (List.flatten [
      [.b x.state.code, .b s.settings.samplerMode.code, .h x.lastDrawn, .optN (d.map (·.lot)), .optB (d.map (·.point.code)),
       .optN (d.map (·.pot.val + 1)), .optN (d.map (·.minutes)), .b x.pending.length],
      (x.pending.flatMap fun a => [.h a.lot, .b a.point.code]),
      [.h (x.command.elim 0 fun p => ((p.val + 1 : Nat) : Int))],
      ((List.finRange 24).flatMap fun p : PotId => [.b (s.pot p).state.code, .optN ((s.pot p).sample.map (·.lot)),
        .optB ((s.pot p).sample.map (·.point.code)), .optW ((s.pot p).sample.map (·.number))]),
      s.readingH .sampler .presenceLow, s.readingH .sampler .presenceHigh, s.readingB .sampler .drawStatus])))) ∧
    (∀ start count (stored held : Nat) (entries : List (List Byte)), s.journalSound → s.journal.state = .running → 1 ≤ count →
      count ≤ 7 → s.journal.oldest ≤ start → held = s.journal.next - s.journal.oldest → stored = held - s.pathNumbers.length →
      entries.length = min count (s.journal.oldest + stored - start) →
      (∀ (i : Nat) (bytes record : List Byte), entries[i]? = some bytes →
        record = Store.record s.store (1 + (start + i - 1) % 4096) →
        bytes = if toBytes 2 (crc16 (record.take 30)).toNat = record.drop 30 then record.take 30
          else toBytes 4 (start + i) ++ List.replicate 26 0#8) →
      exec (.journalRead start count) s = .next (s.answer 0x4A#8 (.done (List.flatten [
        [.b entries.length, .w s.journal.oldest, .w (if stored = 0 then 0 else s.journal.oldest + stored - 1 : Nat),
         .w s.journal.next, .h held, .h s.journal.reserved, .h (4096 - held - s.journal.reserved : Nat), .b 2,
         .flag s.journal.fault],
        entries.flatten.map fun x => .b x.toNat])))) ∧
    (∀ x : Source, exec (.alarmEnablesQuery (some x.code)) s =
      .next (s.answer 0x51#8 (.done (.b 1 :: Category.all.map fun c => Fld.flag (s.alarmEnabled x c))))) ∧
    exec (.alarmEnablesQuery none) s = .next (s.answer 0x51#8
      (.done (.b 51 :: Source.all.flatMap fun x => Category.all.map fun c => Fld.flag (s.alarmEnabled x c)))) ∧
    (∀ start xs, 1 ≤ start → start ≤ 48 → xs = (s.alarms.entries.drop (start - 1)).take 12 → exec (.alarmQuery start) s =
      .next (s.answer 0x53#8 (.done (List.flatten [
        [.b xs.length],
        (xs.zipIdx start).flatMap fun y => [.h y.2, .b y.1.source.code, .b y.1.kind.code, .b y.1.kind.category.code,
          .w y.1.raised.toNat, .b y.1.state.code],
        [.h s.alarms.entries.length],
        Category.all.map fun c => .h (s.alarms.entries.countP fun e => e.kind.category == c),
        [.h (s.alarms.entries.countP fun e => e.state != .activeAck), .b s.alarms.horn.code, .h s.alarms.hornMinutes,
         .flag (s.alarms.horn == .on), .flag s.alarms.overflow]])))) ∧
    (∀ start x p es, 1 ≤ start → start ≤ 30 → x = s.link → p = s.settings.plan →
      es = (x.roster.filter fun e => decide (start ≤ e.position)).take 8 → exec (.linkQuery start) s =
      .next (s.answer 0x5D#8 (.done (List.flatten [
        [.b x.state.code, .h x.cycleCount.toNat, .optH x.expected, .optH s.e0?, .h x.missed, .h x.retry, .flag p.isSome,
         .flag (x.force.isSome && x.force == p), .optN (p.map Plan.upBits), .optN (p.map Plan.downBits), .optN x.shortPosition,
         .h x.duplicates, .flag s.settings.autoRollCall, .h x.roster.length, .b es.length],
        es.flatMap fun e => [.h e.position, .b e.kind.code, .h e.serial.toNat, .optB ((s.siteOf? e.serial).map Site.code),
          .b e.state.code, .h e.offset, .h e.failCount]])))) ∧
    ∀ r : Reply, r = .done [.b 0x55, .h 310, .b 1, .h 4096, .h 1, .h 32, .h 16, .h 48, .h 32, .h 30] →
      exec .identify s = .next (s.answer 0x63#8 r) ∧
      r.payload = [0x00#8, 0x55#8, 0x01#8, 0x36#8, 0x01#8, 0x10#8, 0x00#8, 0x00#8, 0x01#8, 0x00#8, 0x20#8, 0x00#8, 0x10#8, 0x00#8,
        0x30#8, 0x00#8, 0x20#8, 0x00#8, 0x1E#8]

/-- The requests that set one or two values: each value given is clamped to its range and stored, an omitted one stands, and the
reply carries what is stored behind the clamped flag; SET-CLOCK's, which is no setting, has none, and the seven enables go without a count
(the model's choices, logs 19 and 62) (R2, R18, R28, R50, R114, R119, R160, R164, R165). -/
def Obligations.SmallSettingsAreClampedAndStored : Prop :=
  ∀ s : State, s.accepts = true →
    (∀ n, exec (.setClock n) s =
      .next ((s.withClock { minutes := n, isSet := true }).answer 0x10#8 (.done [.w s.clock.minutes.toNat]))) ∧
    (∀ n x, x = max 10 (min 480 n) → exec (.transferSettings n) s = .next ((s.withSettings { s.settings with
      transferTimeout := x }).answer 0x15#8 (.done [.flag (decide (x ≠ n)), .h x]))) ∧
    (∀ v n x, x = max 10 (min 240 n) → exec (.steepSettings (Vessel.steep v).code n) s = .next ((s.withSettings { s.settings with
      fillTimeouts := s.settings.fillTimeouts.set v x }).answer 0x19#8 (.done [.flag (decide (x ≠ n)), .h x]))) ∧
    (∀ a p aw pw, aw = settled 1000 200000 a s.settings.nextAw → pw = settled 2 60 p s.settings.nextPw → ∃ c,
      exec (.waterSettings a p) s = .next ((s.withSettings { s.settings with nextAw := aw, nextPw := pw }).answer 0x20#8
        (.done [.flag c, .w aw, .h pw, .w s.water.allowance, .h s.water.period])) ∧
      (c = true ↔ outside 1000 200000 a ∨ outside 2 60 p)) ∧
    (∀ spell sw cutoff x, x = ({ spell := settled 10 120 spell s.settings.peat.spell
                                 switchover := settled 1 15 sw s.settings.peat.switchover
                                 cutoff := settled 1500 4000 cutoff s.settings.peat.cutoff } : PeatSettings) → ∃ c,
      exec (.peatSettings spell sw cutoff) s = .next ((s.withSettings { s.settings with peat := x }).answer 0x40#8
        (.done [.flag c, .h x.spell, .h x.switchover, .h x.cutoff])) ∧
      (c = true ↔ outside 10 120 spell ∨ outside 1 15 sw ∨ outside 1500 4000 cutoff)) ∧
    (∀ m : SamplerMode, exec (.samplerMode m.code) s =
      .next ((s.withSettings { s.settings with samplerMode := m }).answer 0x48#8 (.done [.flag false, .b m.code]))) ∧
    (∀ x, exec (.linkSettings x) s =
      .next ((s.withSettings { s.settings with autoRollCall := x }).answer 0x5C#8 (.done [.flag false, .flag x]))) ∧
    ∀ x, exec (.setNoticeMask x) s =
      .next ((s.withSettings { s.settings with noticeMask := x }).answer 0x61#8 (.done (.flag false :: x.toList.map Fld.flag)))

/-- The requests that set a program, a mask or a group of settings, field by field: a value given is brought into its range and stored,
an omitted one stands, and the clamped flag is set where a value given lay outside its range; the values that would stand are refused
with RANGE where they do not agree. A kiln's Tfd and Tc are lowered to Tmax − 20, a kept one too, which sets the flag (the model's
reading, log 18). ZONE-MASK's reply carries a clamped flag, always clear (log 19), and a
list of more than 12 zones is MALFORMED (log 17): the model's choices. The codes of the step kinds, the litres 0xFFFF of a REST step, and the
8 sprays without a count are the model's choices (logs 52, 17 and 62) (R27, R65, R66, R82, R90, R163). -/
def Obligations.ProgramsAndGroupsAreStored : Prop :=
  ∀ s : State, s.accepts = true →
    (∀ (v : SteepId) (fields : List StepFields) (early rest : Bool) (minutes litres : StepFields → Nat)
      (x : SteepProgram),
      minutes = (fun f => settled 10 1440 (some f.minutes) 0) → litres = (fun f => settled 100 65000 (some f.litres) 0) →
      x = { steps := fields.map fun f => if f.kind = 1 then .immerse (minutes f) (litres f) f.flag else .rest (minutes f) f.flag
            earlyFinish := early, endWithRest := rest } →
      (fields.length < 1 ∨ 8 < fields.length → exec (.steepProgram (Vessel.steep v).code fields early rest) s =
        .next (s.answer 0x18#8 (.refused .range))) ∧
      (1 ≤ fields.length → fields.length ≤ 8 → (∃ f ∈ fields, f.kind ≠ 1 ∧ f.kind ≠ 2) →
        exec (.steepProgram (Vessel.steep v).code fields early rest) s = .next (s.answer 0x18#8 (.refused .malformed))) ∧
      (1 ≤ fields.length → fields.length ≤ 8 → (∀ f ∈ fields, f.kind = 1 ∨ f.kind = 2) →
        ((s.steep v).state = .empty ∨ (s.steep v).state = .charged ∨ (s.steep v).state = .done → ∃ c,
          exec (.steepProgram (Vessel.steep v).code fields early rest) s =
            .next ((s.withSettings { s.settings with
              steepPrograms := s.settings.steepPrograms.set v x }).answer 0x18#8 (.done (.flag c :: .b fields.length ::
              (fields.flatMap fun f => [.b f.kind, .h (minutes f), .h (if f.kind = 1 then litres f else 65535), .flag f.flag]) ++
              [.flag early, .flag rest]))) ∧
          (c = true ↔ ∃ f ∈ fields, outside 10 1440 (some f.minutes) ∨ f.kind = 1 ∧ outside 100 65000 (some f.litres))) ∧
        ((s.steep v).state ≠ .empty ∧ (s.steep v).state ≠ .charged ∧ (s.steep v).state ≠ .done →
          exec (.steepProgram (Vessel.steep v).code fields early rest) s = .next (s.answer 0x18#8 (.refused .conflict))))) ∧
    (∀ (place : Nat) (zones : List Nat), 12 < zones.length →
      exec (.zoneMask place zones) s = .next (s.answer 0x28#8 (.refused .malformed))) ∧
    (∀ (b : BoxId) (zones : List Nat), zones.length ≤ 12 → (∀ z ∈ zones, 1 ≤ z ∧ z ≤ 12) →
      ∃ t, exec (.zoneMask (Vessel.box b).code zones) s = .next t ∧
      (∀ z : ZoneId, (t.settings.zoneMasks[b])[z] = true ↔ z.val + 1 ∈ zones) ∧
      (∀ c : BoxId, c ≠ b → t.settings.zoneMasks[c] = s.settings.zoneMasks[c]) ∧
      t = { s with settings := { s.settings with zoneMasks := t.settings.zoneMasks }, port := t.port } ∧
      s.replied t 0x28#8 (.done (.flag false :: zoneFields (t.settings.zoneMasks[b])))) ∧
    (∀ (b : BoxId) (f : BoxFields) (old x : BoxSettings), old = s.settings.boxes[b] →
      x = { target := settled 1440 10080 f.target old.target, minInterval := settled 30 720 f.minInterval old.minInterval
            maxInterval := settled 120 1440 f.maxInterval old.maxInterval
            spreadThreshold := settled 5 100 f.spreadThreshold old.spreadThreshold
            highMean := settledTemp 120 260 f.highMean old.highMean, tset := settledTemp 100 220 f.tset old.tset
            kf := settled 0 50 f.kf old.kf, fbase := settled 0 100 f.fbase old.fbase, fmin := settled 0 100 f.fmin old.fmin
            fmax := settled 0 100 f.fmax old.fmax } →
      (x.fmin ≤ x.fmax → ∃ c, exec (.boxSettings (Vessel.box b).code f) s =
        .next ((s.withSettings { s.settings with boxes := s.settings.boxes.set b x }).answer 0x29#8
          (.done [.flag c, .h x.target, .h x.minInterval, .h x.maxInterval, .h x.spreadThreshold, .h x.highMean, .h x.tset, .h x.kf,
            .h x.fbase, .h x.fmin, .h x.fmax])) ∧
        (c = true ↔ outside 1440 10080 f.target ∨ outside 30 720 f.minInterval ∨ outside 120 1440 f.maxInterval ∨
          outside 5 100 f.spreadThreshold ∨ outsideTemp 120 260 f.highMean ∨ outsideTemp 100 220 f.tset ∨ outside 0 50 f.kf ∨
          outside 0 100 f.fbase ∨ outside 0 100 f.fmin ∨ outside 0 100 f.fmax)) ∧
      (x.fmax < x.fmin → exec (.boxSettings (Vessel.box b).code f) s = .next (s.answer 0x29#8 (.refused .range)))) ∧
    (∀ (f : TurnerFields) (old x : TurnerSettings), old = s.settings.turner →
      x = { travel := settled 1 10 f.travel old.travel, pass := settled 10 120 f.pass old.pass
            spray := Vector.ofFn fun b => settled 0 300 f.spray[b] old.spray[b] } → ∃ c,
      exec (.turnerSettings f) s = .next ((s.withSettings { s.settings with turner := x }).answer 0x32#8
        (.done (.flag c :: .h x.travel :: .h x.pass :: x.spray.toList.map fun n : Nat => .h n))) ∧
      (c = true ↔ outside 1 10 f.travel ∨ outside 10 120 f.pass ∨ ∃ b : BoxId, outside 0 300 f.spray[b])) ∧
    ∀ (k : KilnId) (f : KilnFields) (old x : KilnProgram) (tfd tc tmax : Nat), old = s.settings.kilns[k] →
      tfd = settledTemp 400 900 f.tfd old.tfd → tc = settledTemp 600 1050 f.tc old.tc →
      tmax = settledTemp 500 1100 f.tmax old.tmax →
      x = { tfd := min tfd (tmax - 20), qb := settled 64 768 f.qb old.qb, nb := settled 1 60 f.nb old.nb
            rr := settled 1 20 f.rr old.rr, tc := min tc (tmax - 20), hc := settled 0 600 f.hc old.hc
            wfinal := settled 200 1500 f.wfinal old.wfinal, wend := settled 100 1000 f.wend old.wend
            tcool := settledTemp 200 600 f.tcool old.tcool, maxFreeDry := settled 120 2880 f.maxFreeDry old.maxFreeDry
            tmax := tmax } →
      (s.kiln k).phase = .empty ∨ (s.kiln k).phase = .ready →
      (600 ≤ x.tc → x.wend < x.wfinal → ∃ c, exec (.kilnProgram (Vessel.kiln k).code f) s =
        .next ((s.withSettings { s.settings with kilns := s.settings.kilns.set k x }).answer 0x38#8
          (.done [.flag c, .h x.tfd, .h x.qb, .h x.nb, .h x.rr, .h x.tc, .h x.hc, .h x.wfinal, .h x.wend, .h x.tcool,
            .h x.maxFreeDry, .h x.tmax])) ∧
        (c = true ↔ outsideTemp 400 900 f.tfd ∨ x.tfd < tfd ∨ outside 64 768 f.qb ∨ outside 1 60 f.nb ∨ outside 1 20 f.rr ∨
          outsideTemp 600 1050 f.tc ∨ x.tc < tc ∨ outside 0 600 f.hc ∨ outside 200 1500 f.wfinal ∨ outside 100 1000 f.wend ∨
          outsideTemp 200 600 f.tcool ∨ outside 120 2880 f.maxFreeDry ∨ outsideTemp 500 1100 f.tmax)) ∧
      (x.tc < 600 ∨ x.wfinal ≤ x.wend →
        exec (.kilnProgram (Vessel.kiln k).code f) s = .next (s.answer 0x38#8 (.refused .range)))

/-! ### Lots and transfers -/

/-- An accepted LOT-IN makes the lot with its declared values clamped, writes a LOT-IN entry and leaves the steep CHARGED; its clamped
flag is set where a value given was changed (R7, R8). -/
def Obligations.LotInMakesTheLot : Prop :=
  ∀ (s : State) (v : SteepId) (lot massIn w : Nat) (wcap target peat : Option Nat), s.accepts = true → 1 ≤ lot → lot ≤ 65535 →
    s.isFree (.steep v) = true → s.lots.length < 16 → s.lot? lot = none → 1 ≤ s.roomOffered →
    ∃ t l c, exec (.lotIn lot (Vessel.steep v).code massIn w wcap target peat) s = .next t ∧ t.lot? lot = some l ∧
      l = newLot lot v massIn w wcap target peat ∧
      l.place = .steep v ∧ l.massIn = min 60000 massIn ∧ l.wcap = settled 4000 5200 wcap 4800 ∧ l.w = min l.wcap w ∧
      l.target = min (settled 3800 4800 target 4400) l.wcap ∧ l.peatTarget = settled 0 1440 peat 0 ∧ l.restored = false ∧
      (c = true ↔ 60000 < massIn ∨ l.wcap < w ∨ outside 4000 5200 wcap ∨ (∃ n, target = some n ∧ n ≠ l.target) ∨
        outside 0 1440 peat) ∧
      l.minSteep = 0 ∧ l.peatGiven = 0 ∧ l.steepOut = none ∧ l.kilnOut = none ∧
      (∀ x, x ∈ t.lots ↔ x = l ∨ x ∈ s.lots) ∧
      t.steep v = { s.steep v with state := .charged, valveOpen := false, outlet := .closed, air := .off } ∧ s.otherSteeps t v ∧
      s.numbered t { Entry.blank .lotIn lot with number := s.journal.next, minute := s.now, mass := l.massIn } ∧
      t.journal.reserved = s.journal.reserved ∧
      t = { s with lots := t.lots, steeps := t.steeps, journal := t.journal, alarms := t.alarms, port := t.port } ∧
      s.replied t 0x11#8 (.done [.flag c, .w s.journal.next, .h l.massIn, .h l.w, .h l.wcap, .h l.target, .h l.peatTarget])

/-- RESTORE-LOT makes its checks in the order of the table and is refused with the reason of the first that fails; it allows DONE
for a steep, TENDING or READY for a box, and the five phases for a kiln (R9). -/
def Obligations.RestoreLotChecksInOrder : Prop :=
  ∀ (s : State) (f : RestoreFields), s.accepts = true → (Stage.ofCode? f.stage).isSome = true →
    let refusedWith := fun r => exec (.restoreLot f) s = .next (s.answer 0x12#8 (.refused r))
    if f.lot < 1 ∨ 65535 < f.lot then refusedWith .range
    else if Place.ofCode? f.place = none then refusedWith .unknownPlace
    else if Place.ofCode? f.place = some .out then refusedWith .conflict
    else ∃ p, Place.ofCode? f.place = some (.vessel p) ∧
      (¬ State.restorable p f.state → refusedWith .range) ∧
      (State.restorable p f.state → s.isFree p = false → refusedWith .state) ∧
      (State.restorable p f.state → s.isFree p = true → 16 ≤ s.lots.length → refusedWith .full) ∧
      (State.restorable p f.state → s.isFree p = true → s.lots.length < 16 → (s.lot? f.lot).isSome = true →
        refusedWith .conflict) ∧
      (State.restorable p f.state → s.isFree p = true → s.lots.length < 16 → s.lot? f.lot = none →
        ∃ t l fields, exec (.restoreLot f) s = .next t ∧ t.lot? f.lot = some l ∧ l.place = p ∧
          t.port.reply = some (0x12#8, .done fields))

/-- A restored lot stands in its place and state with its fields clamped and completed: the kiln fields go outside a kiln, a kiln's
break fields follow its phase, its record is set as R88's table says, and a lot in FREE-DRY asks for the fire. The reply is the record and
then the clamped flag, which is set where a value that stands is not the one given. That the ratio and the shortfall are clamped to R3's ranges, and set the flag, and that a forced flag omitted beside a break
minute is a natural break are the model's choices (log 53). A stage code that names no stage is
MALFORMED (log 17) (R10, R88, R163). -/
def Obligations.RestoredLotTakesItsPlace : Prop :=
  (∀ (s : State) (f : RestoreFields), s.accepts = true → Stage.ofCode? f.stage = none →
    exec (.restoreLot f) s = .next (s.answer 0x12#8 (.refused .malformed))) ∧
  ∀ (s : State) (f : RestoreFields) (p : Vessel), s.accepts = true → (Stage.ofCode? f.stage).isSome = true → 1 ≤ f.lot →
    f.lot ≤ 65535 → f.place = p.code → s.isFree p = true → s.lots.length < 16 → s.lot? f.lot = none →
    State.restorable p f.state → ∃ t l, exec (.restoreLot f) s = .next t ∧ t.lot? f.lot = some l ∧ (∀ x, x ∈ t.lots ↔ x = l ∨ x ∈ s.lots) ∧
      l.place = p ∧ l.restored = true ∧ l.transfer = none ∧ l.massIn = min 60000 f.massIn ∧
      l.wcap = max 4000 (min 5200 f.wcap) ∧ l.w ≤ l.wcap ∧ l.target = min (max 3800 (min 4800 f.target)) l.wcap ∧
      l.peatTarget = min 1440 f.peatTarget ∧ l.peatGiven = min l.peatTarget f.peatGiven ∧ l.minSteep = f.minSteep ∧
      l.minBox = f.minBox ∧ l.turnCount = f.turnCount ∧ l.aborted = f.aborted ∧ l.spray = f.spray ∧ l.steepOut = f.steepOut ∧
      l.kilnOut = f.kilnOut ∧
      (∃ clamped, s.replied t 0x12#8 (.done (lotFields l ++ [.flag clamped])) ∧
        (clamped = true ↔ l.massIn ≠ f.massIn ∨ l.w ≠ f.w ∨ l.wcap ≠ f.wcap ∨ l.target ≠ f.target ∨
          l.peatTarget ≠ f.peatTarget ∨ l.peatGiven ≠ f.peatGiven ∨ (∃ a c, f.q = some a ∧ l.q = some c ∧ a ≠ c) ∨
          (∃ a c, f.shortfall = some a ∧ l.shortfall = some c ∧ a ≠ c))) ∧
      ((∀ b, p ≠ .box b) → l.lastTurn = f.lastTurn ∧ l.sinceTurn = f.sinceTurn) ∧
      (∀ v, p = .steep v → (t.steep v).state = .done ∧ s.otherSteeps t v ∧ l.w = min l.wcap f.w ∧ l.wload = none ∧ l.d0 = none ∧
        l.q = none ∧ l.breakMinute = none ∧ l.forced = false ∧ l.shortfall = none ∧
        t = { s with lots := t.lots, steeps := t.steeps, port := t.port }) ∧
      (∀ b, p = .box b → (t.box b).state.code = f.state ∧ (t.box b).fan = (s.boxSettings b).fbase ∧ (t.box b).need = none ∧
        (t.box b).blind = false ∧ s.otherBoxes t b ∧ l.w = min l.wcap f.w ∧ l.lastTurn = some (f.lastTurn.getD s.now) ∧
        l.sinceTurn = some (f.sinceTurn.getD 0) ∧ l.wload = none ∧ l.d0 = none ∧ l.q = none ∧ l.breakMinute = none ∧
        l.forced = false ∧ l.shortfall = none ∧
        t = { s with lots := t.lots, boxes := t.boxes, port := t.port }) ∧
      (∀ k, p = .kiln k → s.otherKilns t k ∧
        (∃ x : KilnPhase, x.code = f.state ∧ t.kiln k = { s.kiln k with
          phase := x, gate := .closed, damperOpen := x == .freeDry && (s.kiln k).peatGrant
          setpoint := if x = .freeDry ∨ x = .curingRamp then (s.kilnProgram k).tfd
            else if x = .curingHold then (s.kilnProgram k).tc else 0
          ramp := if x = .curingRamp then (s.kilnProgram k).tfd else (s.kiln k).ramp
          holdMinutes := if x = .curingRamp ∨ x = .curingHold then 0 else (s.kiln k).holdMinutes
          freeDryMinutes := if x = .freeDry then 0 else (s.kiln k).freeDryMinutes
          breakCount := if x = .freeDry then 0 else (s.kiln k).breakCount
          blindMinutes := if x = .freeDry then 0 else (s.kiln k).blindMinutes
          breakLate := if x = .freeDry then false else (s.kiln k).breakLate }) ∧
        l.wload = some (f.wload.getD (min l.wcap f.w)) ∧ l.w = min (min l.wcap f.w) (f.wload.getD (min l.wcap f.w)) ∧
        l.q = some (min 1024 (f.q.getD 1024)) ∧ l.d0 = f.d0 ∧
        (f.state = KilnPhase.freeDry.code → l.breakMinute = none ∧ l.forced = false ∧ l.shortfall = none ∧
          t.peat = { s.peat with asking := s.peat.asking.set k true }) ∧
        (f.state ≠ KilnPhase.freeDry.code → l.breakMinute = some (f.breakMinute.getD s.now) ∧
          (l.forced = true ↔ f.forced = some true ∨ f.breakMinute = none) ∧
          l.shortfall = some ((f.shortfall.map (min 1440)).getD (l.peatTarget - l.peatGiven)) ∧ t.peat = s.peat) ∧
        t = { s with lots := t.lots, kilns := t.kilns, peat := t.peat, port := t.port })

/-- An accepted TRANSFER: a box's lot flows to its kiln at once, its turn request gone from the queue. A steep's to a box, with two
entries reserved, and a kiln's to OUT, with three, pass a sample point: with an IDLE sampler, none waiting and a READY pot the draw starts
and the transfer flows, in either mode; otherwise it joins the pending draws in HOLD mode, NO-POT standing while no pot is READY, and in
PASS mode flows at once with a MISSED entry numbered, which uses the sample reservation and returns the collected one. A reply that names
PENDING in HOLD mode where the draw starts in the same command (log 43), and a steep's step minutes at 0 with its other fields (log 55), are
the model's readings of R12 and R36 (R11, R12, R14, R120 to R122). -/
def Obligations.TransferRequestsStart : Prop :=
  (∀ (s : State) (n : Nat) (l : Lot) (b : BoxId) (k : KilnId) (force : Bool), s.accepts = true → s.lot? n = some l →
    l.place = .box b → l.transfer = none → s.isFree (.kiln k) = true → (force = true ∨ (s.box b).state = .ready) →
    s.engagedOn b = false →
    let tr : Transfer :=
      { dest := .vessel (.kiln k), flowing := true, outMass := none, minutes := 0
        timeout := some s.settings.transferTimeout, reserved := 0, resolved := false, lateRaised := false }
    ∃ t, exec (.transfer n (Vessel.kiln k).code force none) s = .next t ∧ t.lot? n = some { l with transfer := some tr } ∧
      s.otherLots t n ∧ (t.box b).state = .transferOut ∧ (t.box b).gate = .discharge ∧ (t.box b).fan = 0 ∧
      (t.box b).need = none ∧ t.queuedTurn? b = none ∧ s.turnDropped t b ∧
      (∀ c, c ≠ b → t.box c = { s.box c with engaged := (t.box c).engaged }) ∧
      (t.kiln k).phase = .loading ∧ (t.kiln k).gate = .receive ∧ (t.kiln k).setpoint = 0 ∧ s.otherKilns t k ∧
      t = { s with lots := t.lots, boxes := t.boxes, kilns := t.kilns, turner := t.turner, alarms := t.alarms, port := t.port } ∧
      s.replied t 0x13#8 (.done [.b 2, .b 0])) ∧
  (∀ (s : State) (n : Nat) (l : Lot) (d : Place) (point : Point) (k : Nat) (mass : Option Nat) (force : Bool),
    s.accepts = true → s.lot? n = some l → s.sampled l d point k mass force →
    let tr := fun (flowing : Bool) (reserved : Nat) (resolved : Bool) =>
      ({ dest := d, flowing := flowing, outMass := mass.map (min 60000), minutes := 0
         timeout := if flowing then some s.settings.transferTimeout else none, reserved := reserved, resolved := resolved
         lateRaised := false } : Transfer)
    (s.settings.samplerMode = .hold → (s.sampler.state ≠ .idle ∨ ∀ p, (s.pot p).state ≠ .ready) →
      ∃ t, exec (.transfer n d.code force mass) s = .next t ∧ t.lot? n = some { l with transfer := some (tr false k false) } ∧
        s.otherLots t n ∧ t.sampler = { s.sampler with pending := s.sampler.pending ++ [{ lot := n, point := point }] } ∧
        (t.stands .sampler .noPot = true ↔ ∀ p, (s.pot p).state ≠ .ready) ∧
        t.journal = { s.journal with reserved := s.journal.reserved + k } ∧
        t = { s with lots := t.lots, sampler := t.sampler, journal := t.journal, alarms := t.alarms, port := t.port } ∧
        s.replied t 0x13#8 (.done [.b 1, .b k])) ∧
    (∀ p, s.sampler.state = .idle → s.sampler.pending = [] → s.nextReady p →
      ∃ t, exec (.transfer n d.code force mass) s = .next t ∧ t.lot? n = some { l with transfer := some (tr true k false) } ∧
        s.otherLots t n ∧ s.vesselsFlow t l.place d ∧
        t.sampler = { s.sampler with
          state := .drawing, lastDrawn := p.val + 1, draw := some { lot := n, point := point, pot := p, minutes := 0 }
          command := some p, pots := t.sampler.pots } ∧
        t.pot p = { state := .drawing, sample := none } ∧ s.otherPots t p ∧
        t.journal = { s.journal with reserved := s.journal.reserved + k } ∧
        t = { s with lots := t.lots, steeps := t.steeps, water := t.water, boxes := t.boxes, kilns := t.kilns, peat := t.peat
                     sampler := t.sampler, journal := t.journal, alarms := t.alarms, port := t.port } ∧
        s.replied t 0x13#8 (.done [.b (if s.settings.samplerMode = .hold then 1 else 2), .b k])) ∧
    (∀ reason, s.settings.samplerMode = .pass → s.bedEmpty l.place = false →
      ((s.sampler.state ≠ .idle ∨ s.sampler.pending ≠ []) ∧ reason = .samplerBusy ∨
       (s.sampler.state = .idle ∧ s.sampler.pending = [] ∧ ∀ p, (s.pot p).state ≠ .ready) ∧ reason = .noPot) →
      ∃ t, exec (.transfer n d.code force mass) s = .next t ∧
        t.lot? n = some (match point with
          | .steepOut => { l with transfer := some (tr true (k - 2) true), steepOut := some s.journal.next }
          | .kilnOut => { l with transfer := some (tr true (k - 2) true), kilnOut := some s.journal.next }) ∧
        s.otherLots t n ∧ s.vesselsFlow t l.place d ∧
        s.numbered t { Entry.blank .missed n with
          number := s.journal.next, minute := s.now, point := some point, reason := some reason } ∧
        t.journal.reserved = s.journal.reserved + (k - 2) ∧
        t = { s with lots := t.lots, steeps := t.steeps, water := t.water, boxes := t.boxes, kilns := t.kilns, peat := t.peat
                     journal := t.journal, alarms := t.alarms, port := t.port } ∧
        s.replied t 0x13#8 (.done [.b 2, .b k])))

/-- TRANSFER-ABORT: a PENDING transfer leaves the pending draws and returns its reservations, and the reply names the source by its place
code (the model's choice, log 69). A FLOWING one, on any of the three paths,
gives the lot to its destination where that reads LOADED, in its first state, and else leaves it with its source, in its finished state;
the other vessel is EMPTY, the reservations are returned, and a draw under way for the transfer ends in a MISSED entry of ABORTED, its pot
SPOILED and the sampler in CLEARING. TRANSFER-LATE is raised once for a transfer whose minutes flowing have reached its timeout, and the
transfer goes on; at a plant minute every FLOWING transfer counts a minute and has that test, and nothing else of a lot changes (R18 to
R21, R125). -/
def Obligations.TransfersAbortOrRunLate : Prop :=
  (∀ (s : State) (n : Nat) (l : Lot) (tr : Transfer), s.accepts = true → s.lot? n = some l → l.transfer = some tr →
    tr.flowing = false →
    ∃ t, exec (.transferAbort n) s = .next t ∧ t.lot? n = some { l with transfer := none } ∧ s.otherLots t n ∧
      t.sampler = { s.sampler with pending := s.sampler.pending.filter fun d => decide (d.lot ≠ n) } ∧
      t.journal = { s.journal with reserved := s.journal.reserved - tr.reserved } ∧
      t = { s with lots := t.lots, sampler := t.sampler, journal := t.journal, alarms := t.alarms, port := t.port } ∧
      s.replied t 0x14#8 (.done [.b l.place.code])) ∧
  (∀ (s : State) (n : Nat) (l : Lot) (tr : Transfer) (drawn : Option Draw), s.accepts = true → s.occupancySound →
    s.lot? n = some l → l.transfer = some tr → tr.flowing = true → State.onPath l.place tr.dest →
    drawn = s.sampler.draw.filter (fun d => d.lot == n) →
    (∀ d, drawn = some d → 2 ≤ tr.reserved ∧ tr.reserved ≤ s.journal.reserved ∧
      ((∃ v, l.place = .steep v) ∧ d.point = .steepOut ∨ (∃ k, l.place = .kiln k) ∧ d.point = .kilnOut)) →
    let left : Lot := { l with
      transfer := none
      steepOut := if drawn.any (·.point == .steepOut) then some s.journal.next else l.steepOut
      kilnOut := if drawn.any (·.point == .kilnOut) then some s.journal.next else l.kilnOut }
    ∃ t, exec (.transferAbort n) s = .next t ∧ s.otherLots t n ∧
      ((∀ d, tr.dest = .vessel d → s.bedLoaded d = false) →
        t.lot? n = some left ∧ s.sourceKept t l tr.dest ∧ s.replied t 0x14#8 (.done [.b l.place.code])) ∧
      (∀ d, tr.dest = .vessel d → s.bedLoaded d = true →
        s.destTook t l.place d ∧ s.replied t 0x14#8 (.done [.b d.code]) ∧
        (∀ b, d = .box b → t.lot? n = some { left with place := d, minBox := 0, sinceTurn := some 0, lastTurn := some s.now }) ∧
        (∀ k, d = .kiln k → t.lot? n = some { left with place := d, wload := some l.w, q := some 1024, d0 := none })) ∧
      t.stands (.vessel l.place) .transferLate = false ∧ t.journal.reserved = s.journal.reserved - tr.reserved ∧
      (drawn = none → t.sampler = s.sampler ∧ t.journal = { s.journal with reserved := t.journal.reserved }) ∧
      (∀ d, drawn = some d →
        s.numbered t { Entry.blank .missed n with
          number := s.journal.next, minute := s.now, point := some d.point, reason := some .aborted } ∧
        t.sampler = { s.sampler with state := .clearing, draw := none, command := none, pots := t.sampler.pots } ∧
        t.pot d.pot = { state := .spoiled, sample := none } ∧ s.otherPots t d.pot) ∧
      t = { s with lots := t.lots, steeps := t.steeps, boxes := t.boxes, kilns := t.kilns, peat := t.peat, sampler := t.sampler
                   journal := t.journal, alarms := t.alarms, port := t.port }) ∧
  (∀ (s : State) (n : Nat) (l : Lot) (tr : Transfer), s.running = true → s.lot? n = some l → l.transfer = some tr →
    (∀ x, tr.flowing = true → tr.lateRaised = false → tr.timeout = some x → x ≤ tr.minutes →
      ∃ t, exec (.transferLate n) s = .next t ∧ t.lot? n = some { l with transfer := some { tr with lateRaised := true } } ∧
        s.otherLots t n ∧ t.stands (.vessel l.place) .transferLate = true ∧
        t = { s with lots := t.lots, alarms := t.alarms, port := t.port } ∧ s.notified t) ∧
    (tr.lateRaised = true → exec (.transferLate n) s = .next s)) ∧
  (∀ s u : State, s.occupancySound → u = s.receive .transfers →
    u.lots = s.lots.map (fun l => { l with transfer := l.transfer.map fun tr =>
      if tr.flowing then { tr with
        minutes := tr.minutes + 1
        lateRaised := tr.lateRaised || tr.timeout.any fun x => decide (x ≤ tr.minutes + 1) } else tr }) ∧
    (∀ p : Vessel, u.stands (.vessel p) .transferLate = true ↔ s.stands (.vessel p) .transferLate = true ∨
      ∃ l ∈ s.lots, ∃ tr x, l.place = p ∧ l.transfer = some tr ∧ tr.flowing = true ∧ tr.lateRaised = false ∧
        tr.timeout = some x ∧ x ≤ tr.minutes + 1) ∧
    u = { s with lots := u.lots, alarms := u.alarms, port := u.port } ∧ s.notified u)

/-- The completion of a transfer: into a kiln the lot enters FREE-DRY with Wload taken from W and asks for the fire; a TRIPPED kiln stays
so, remembers FREE-DRY and asks for nothing; into a box the lot is TENDED with its counts at 0; the source is EMPTY (R15, R16, R56,
R87). -/
def Obligations.TransferCompletionMovesTheLot : Prop :=
  (∀ (s : State) (n : Nat) (l : Lot) (tr : Transfer) (b : BoxId) (k : KilnId), s.running = true → s.lot? n = some l →
    s.occupancySound → l.transfer = some tr → tr.flowing = true → l.place = .box b → tr.dest = .vessel (.kiln k) →
    s.bedEmpty (.box b) = true → (s.kiln k).phase = .loading →
    ∃ t, exec (.transferCompletion n) s = .next t ∧
      t.lot? n = some { l with place := .kiln k, transfer := none, wload := some l.w, q := some 1024, d0 := none } ∧
      s.otherLots t n ∧
      (t.box b).state = .empty ∧ (t.box b).gate = .closed ∧ (t.box b).fan = 0 ∧ s.otherBoxes t b ∧
      (t.kiln k).phase = .freeDry ∧ (t.kiln k).setpoint = (s.kilnProgram k).tfd ∧ (t.kiln k).freeDryMinutes = 0 ∧
      (t.kiln k).breakCount = 0 ∧ s.otherKilns t k ∧ t.peat = { s.peat with asking := s.peat.asking.set k true } ∧
      t.journal = { s.journal with reserved := s.journal.reserved - tr.reserved } ∧
      t = { s with lots := t.lots, boxes := t.boxes, kilns := t.kilns, peat := t.peat, journal := t.journal, alarms := t.alarms
                   port := t.port } ∧
      s.notified t) ∧
  (∀ (s : State) (n : Nat) (l : Lot) (tr : Transfer) (b : BoxId) (k : KilnId), s.running = true → s.lot? n = some l →
    s.occupancySound → l.transfer = some tr → tr.flowing = true → l.place = .box b → tr.dest = .vessel (.kiln k) →
    s.bedEmpty (.box b) = true → (s.kiln k).phase = .tripped →
    ∃ t, exec (.transferCompletion n) s = .next t ∧
      t.lot? n = some { l with place := .kiln k, transfer := none, wload := some l.w, q := some 1024, d0 := none } ∧
      s.otherLots t n ∧ t.boxTook b .empty .closed ∧ s.otherBoxes t b ∧
      t.kiln k = { s.kiln k with
        remembered := some .freeDry, gate := .closed, freeDryMinutes := 0, breakCount := 0, blindMinutes := 0, breakLate := false } ∧
      s.otherKilns t k ∧ t.journal = { s.journal with reserved := s.journal.reserved - tr.reserved } ∧
      t = { s with lots := t.lots, boxes := t.boxes, kilns := t.kilns, journal := t.journal, alarms := t.alarms, port := t.port } ∧
      s.notified t) ∧
  (∀ (s : State) (n : Nat) (l : Lot) (tr : Transfer) (v : SteepId) (b : BoxId), s.running = true → s.lot? n = some l →
    l.transfer = some tr → tr.flowing = true → tr.resolved = true → l.place = .steep v → tr.dest = .vessel (.box b) →
    s.bedEmpty (.steep v) = true →
    ∃ t, exec (.transferCompletion n) s = .next t ∧
      t.lot? n = some { l with place := .box b, transfer := none, minBox := 0, sinceTurn := some 0, lastTurn := some s.now } ∧
      s.otherLots t n ∧ (t.steep v).state = .empty ∧ (t.steep v).outlet = .closed ∧ s.otherSteeps t v ∧
      (t.box b).state = .tending ∧ (t.box b).fan = (s.boxSettings b).fbase ∧ s.otherBoxes t b ∧
      t.journal = { s.journal with reserved := s.journal.reserved - tr.reserved } ∧
      t = { s with lots := t.lots, steeps := t.steeps, boxes := t.boxes, journal := t.journal, alarms := t.alarms, port := t.port } ∧
      s.notified t)

/-- A lot that has reached OUT leaves the lot table with a LOT-OUT entry that carries its mass, moisture and peat, and its kiln is
EMPTY; a TRIPPED kiln that remembers UNLOADING stays so and remembers EMPTY (R17, R87). -/
def Obligations.LotOutRetiresTheLot : Prop :=
  ∀ (s : State) (n : Nat) (l : Lot) (tr : Transfer) (k : KilnId) (mass : Nat), s.running = true → s.lot? n = some l →
    l.transfer = some tr → tr.flowing = true → tr.resolved = true → l.place = .kiln k → tr.dest = .out →
    tr.outMass = some mass → s.bedEmpty (.kiln k) = true →
    ((s.kiln k).phase = .unloading ∨ (s.kiln k).phase = .tripped ∧ (s.kiln k).remembered = some .unloading) →
    ∃ t, exec (.lotOutCompletion n) s = .next t ∧ (∀ x, x ∈ t.lots ↔ x ∈ s.lots ∧ x.number ≠ n) ∧
      s.numbered t { Entry.blank .lotOut n with
        number := s.journal.next, minute := s.now, mass := mass, overMass := decide (l.massIn < mass), w := l.w
        peatGiven := l.peatGiven, shortfall := l.shortfall.getD (l.peatTarget - l.peatGiven) } ∧
      t.journal.reserved = s.journal.reserved - tr.reserved ∧ s.kilnTook t k .empty .closed ∧ s.otherKilns t k ∧
      t = { s with lots := t.lots, kilns := t.kilns, journal := t.journal, alarms := t.alarms, port := t.port } ∧ s.notified t

/-! ### Steeping and the water rounds -/

/-- STEEP-START, STEEP-HALT and STEEP-RESUME: a first step of either kind, a fill queued or granted at once by the round record, or halted
at entry where a reading is stale; the halt of a running state or of a fill, queued or running, with its remainder; and the return to what
was held. The reply that names HALTED there (log 54), and that a fill resumed with remainder 0 stays FILLING though the level stands fresh
at COVERED (log 63), are the model's choices (R29, R30, R38 to R40, R47 to R49). -/
def Obligations.SteepRequestsAct : Prop :=
  ∀ (s : State) (v : SteepId), s.accepts = true →
    (∀ m x rest, (s.steep v).state = .charged → (s.steepProgram v).steps = .rest m x :: rest →
      ∃ t, exec (.steepStart (Vessel.steep v).code) s = .next t ∧
        t.steep v = { s.steep v with
          state := .airRest, stepNumber := some 1, stepMinutes := 0, valveOpen := false, outlet := .closed
          air := if x then .extract else .off } ∧
        s.otherSteeps t v ∧ t = { s with steeps := t.steeps, port := t.port } ∧
        s.replied t 0x1A#8 (.done [.b SteepState.airRest.code])) ∧
    (∀ m litres a rest, (s.steep v).state = .charged → (s.steepProgram v).steps = .immerse m litres a :: rest →
      (s.steepStale v = false →
        ∃ t, exec (.steepStart (Vessel.steep v).code) s = .next t ∧
          s.posted t v { s.steep v with
            state := .filling, stepNumber := some 1, stepMinutes := 0, fillStage := .queued, fillLitres := litres
            delivered := false, fillMinutes := 0, valveOpen := false, outlet := .closed, air := .off } litres ∧
          s.otherSteeps t v ∧ t = { s with steeps := t.steeps, water := t.water, port := t.port } ∧
          s.replied t 0x1A#8 (.done [.b SteepState.filling.code])) ∧
      (s.steepStale v = true →
        ∃ t, exec (.steepStart (Vessel.steep v).code) s = .next t ∧
          t.steep v = { s.steep v with
            state := .halted, held := some .filling, remainder := some litres, stepNumber := some 1, stepMinutes := 0
            fillStage := .none, fillLitres := litres, delivered := false, fillMinutes := 0, valveOpen := false, outlet := .closed
            air := .off, fillBaseline := (t.steep v).fillBaseline, timeoutInForce := (t.steep v).timeoutInForce } ∧
          (∀ r ∈ t.water.queue, r.steep ≠ v) ∧ t.stands (.vessel (.steep v)) .steepBlind = true ∧ s.otherSteeps t v ∧
          t = { s with steeps := t.steeps, water := t.water, alarms := t.alarms, port := t.port } ∧
          s.replied t 0x1A#8 (.done [.b SteepState.halted.code]))) ∧
    ((s.steep v).state = .immersed ∨ (s.steep v).state = .draining ∨ (s.steep v).state = .airRest →
      ∃ t, exec (.steepHalt (Vessel.steep v).code) s = .next t ∧
        t.steep v = { s.steep v with
          state := .halted, held := some (s.steep v).state, valveOpen := false, outlet := .closed, air := .off } ∧
        s.otherSteeps t v ∧ t = { s with steeps := t.steeps, port := t.port } ∧
        s.replied t 0x1B#8 (.done [.b (s.steep v).state.code, .optN (s.steep v).remainder])) ∧
    ((s.steep v).state = .filling → (s.steep v).fillStage = .queued →
      ∃ t, exec (.steepHalt (Vessel.steep v).code) s = .next t ∧
        t.steep v = { s.steep v with
          state := .halted, held := some .filling, fillStage := .none, remainder := some (s.steep v).fillLitres
          valveOpen := false, outlet := .closed, air := .off } ∧
        t.water = { s.water with queue := s.water.queue.filter fun x => decide (x.steep ≠ v) } ∧
        s.otherSteeps t v ∧ t = { s with steeps := t.steeps, water := t.water, port := t.port } ∧
        s.replied t 0x1B#8 (.done [.b SteepState.filling.code, .h (s.steep v).fillLitres])) ∧
    (∀ owed, (s.steep v).state = .filling → (s.steep v).fillStage = .running →
      owed = (if (s.steep v).delivered then 0 else (s.steep v).fillLitres - s.litresDelivered v) →
      ∃ t, exec (.steepHalt (Vessel.steep v).code) s = .next t ∧
        t.steep v = { s.steep v with
          state := .halted, held := some .filling, fillStage := .none, remainder := some owed
          valveOpen := false, outlet := .closed, air := .off } ∧
        s.otherSteeps t v ∧ t = { s with steeps := t.steeps, port := t.port } ∧
        s.replied t 0x1B#8 (.done [.b SteepState.filling.code, .h owed])) ∧
    (∀ x, (s.steep v).state = .halted → (s.steep v).held = some x → x ≠ .filling →
      ∃ t, exec (.steepResume (Vessel.steep v).code) s = .next t ∧
        t.steep v = { s.steep v with
          state := x, held := none, remainder := none, valveOpen := false, outlet := outletIn x, air := s.airCommand v x } ∧
        t.stands (.vessel (.steep v)) .fillLate = false ∧ s.otherSteeps t v ∧
        t = { s with steeps := t.steeps, alarms := t.alarms, port := t.port } ∧
        s.replied t 0x1C#8 (.done [.b x.code])) ∧
    (∀ owed, (s.steep v).state = .halted → (s.steep v).held = some .filling → (s.steep v).remainder = some owed →
      (s.steepStale v = false →
        ∃ t, exec (.steepResume (Vessel.steep v).code) s = .next t ∧
          (0 < owed → s.posted t v { s.steep v with
            state := .filling, held := none, remainder := none, fillStage := .queued, fillLitres := owed
            delivered := false, fillMinutes := 0, valveOpen := false, outlet := .closed, air := .off } owed) ∧
          (owed = 0 → t.water = s.water ∧ t.steep v = { s.steep v with
            state := .filling, held := none, remainder := none, fillStage := .running, delivered := true, fillMinutes := 0
            timeoutInForce := s.settings.fillTimeouts[v], valveOpen := false, outlet := .closed, air := .off }) ∧
          t.stands (.vessel (.steep v)) .fillLate = false ∧ s.otherSteeps t v ∧
          t = { s with steeps := t.steeps, water := t.water, alarms := t.alarms, port := t.port } ∧
          s.replied t 0x1C#8 (.done [.b SteepState.filling.code])) ∧
      (s.steepStale v = true → exec (.steepResume (Vessel.steep v).code) s = .next (s.answer 0x1C#8 (.refused .state))))

/-- The ends of an immersion, an air rest, a fill and a drain: an early finish sets the skip flag, the next step is a rest or a fill,
queued or granted at once by the round record, the last step ends in DONE, a late fill is halted with what it owes, the litres delivered
close the valve, and COVERED starts the immersion (R30 to R35, R37, R47). -/
def Obligations.SteepEventsAct : Prop :=
  ∀ (s : State) (v : SteepId), s.running = true →
    (∀ early, (s.steep v).state = .immersed → s.earlyFinish v = early → (early = true ∨ s.stepMinutesReached v = true) →
      ∃ t, exec (.immersionEnd v) s = .next t ∧
        t.steep v = { s.steep v with state := .draining, skip := early, valveOpen := false, outlet := .drain, air := .off } ∧
        s.otherSteeps t v ∧ t = { s with steeps := t.steeps, port := t.port } ∧ s.notified t) ∧
    (∀ n, (s.steep v).state = .airRest → (s.steep v).stepNumber = some n → s.stepMinutesReached v = true →
      ((s.steepProgram v).steps[n]? = none →
        ∃ t, exec (.airRestEnd v) s = .next t ∧
          t.steep v = { s.steep v with
            state := .done, stepNumber := none, valveOpen := false, outlet := .closed
            air := if (s.steepProgram v).endWithRest then .extract else .off } ∧
          s.otherSteeps t v ∧ t = { s with steeps := t.steeps, port := t.port } ∧ s.notified t) ∧
      (∀ m x, (s.steepProgram v).steps[n]? = some (.rest m x) →
        ∃ t, exec (.airRestEnd v) s = .next t ∧
          t.steep v = { s.steep v with
            stepNumber := some (n + 1), stepMinutes := 0, valveOpen := false, outlet := .closed
            air := if x then .extract else .off } ∧
          s.otherSteeps t v ∧ t = { s with steeps := t.steeps }) ∧
      (∀ m litres a, (s.steepProgram v).steps[n]? = some (.immerse m litres a) → s.steepStale v = false →
        ∃ t, exec (.airRestEnd v) s = .next t ∧
          s.posted t v { s.steep v with
            state := .filling, stepNumber := some (n + 1), stepMinutes := 0, fillStage := .queued, fillLitres := litres
            delivered := false, fillMinutes := 0, valveOpen := false, outlet := .closed, air := .off } litres ∧
          s.otherSteeps t v ∧ t = { s with steeps := t.steeps, water := t.water, port := t.port } ∧ s.notified t)) ∧
    ((s.steep v).state = .filling → (s.steep v).fillStage = .running → (s.steep v).timeoutInForce ≤ (s.steep v).fillMinutes →
      ∃ t, exec (.fillTimeout v) s = .next t ∧
        t.steep v = { s.steep v with
          state := .halted, held := some .filling, fillStage := .none
          remainder := some (if (s.steep v).delivered then 0 else (s.steep v).fillLitres - s.litresDelivered v)
          valveOpen := false, outlet := .closed, air := .off } ∧
        t.stands (.vessel (.steep v)) .fillLate = true ∧ s.otherSteeps t v ∧
        t = { s with steeps := t.steeps, alarms := t.alarms, port := t.port } ∧ s.notified t) ∧
    (∀ (x base : Int), (s.imageEntry? (steepSite v) .delivered).isSome = true → (s.steep v).state = .filling →
      (s.steep v).fillStage = .running → (s.steep v).delivered = false → (s.steep v).fillBaseline = some base →
      (s.steep v).fillLitres ≤ ((x - base) % 32768).toNat * 10 →
      (s.level? v ≠ some .covered →
        ∃ t, exec (.fillDelivered v x) s = .next t ∧ t.steep v = { s.steep v with valveOpen := false, delivered := true } ∧
          t.held? (steepSite v) .delivered = some x ∧ s.otherSteeps t v ∧
          t = { s with steeps := t.steeps, link := { s.link with image := t.link.image } }) ∧
      (s.level? v = some .covered →
        ∃ t, exec (.fillDelivered v x) s = .next t ∧
          t.steep v = { s.steep v with
            state := .immersed, delivered := true, fillStage := .none, stepMinutes := 0, valveOpen := false
            outlet := .closed, air := s.airCommand v .immersed } ∧
          s.otherSteeps t v ∧
          t = { s with steeps := t.steeps, link := { s.link with image := t.link.image }, port := t.port } ∧ s.notified t)) ∧
    ((s.imageEntry? (steepSite v) .level).isSome = true → (s.steep v).state = .filling → (s.steep v).fillStage = .running →
      (s.steep v).delivered = true →
      ∃ t, exec (.immersionStart v) s = .next t ∧
        t.steep v = { s.steep v with
          state := .immersed, fillStage := .none, stepMinutes := 0, valveOpen := false, outlet := .closed
          air := s.airCommand v .immersed } ∧
        t.level? v = some .covered ∧ s.otherSteeps t v ∧
        t = { s with steeps := t.steeps, link := { s.link with image := t.link.image }, port := t.port } ∧ s.notified t) ∧
    (∀ x, (s.imageEntry? (steepSite v) .level).isSome = true → (s.steep v).state = .draining → x ≠ .covered →
      ((s.steep v).skip = true →
        ∃ t, exec (.drainEnd v x) s = .next t ∧
          t.steep v = { s.steep v with
            state := .done, skip := false, stepNumber := none, valveOpen := false, outlet := .closed
            air := if (s.steepProgram v).endWithRest then .extract else .off } ∧
          s.otherSteeps t v ∧
          t = { s with steeps := t.steeps, link := { s.link with image := t.link.image }, port := t.port } ∧ s.notified t) ∧
      (∀ n m e, (s.steep v).skip = false → (s.steep v).stepNumber = some n →
        (s.steepProgram v).steps[n]? = some (.rest m e) →
        ∃ t, exec (.drainEnd v x) s = .next t ∧
          t.steep v = { s.steep v with
            state := .airRest, stepNumber := some (n + 1), stepMinutes := 0, valveOpen := false, outlet := .closed
            air := if e then .extract else .off } ∧
          s.otherSteeps t v ∧
          t = { s with steeps := t.steeps, link := { s.link with image := t.link.image }, port := t.port } ∧ s.notified t) ∧
      (∀ n m litres a, (s.steep v).skip = false → (s.steep v).stepNumber = some n →
        (s.steepProgram v).steps[n]? = some (.immerse m litres a) → s.isFresh (steepSite v) .delivered = true →
        ∃ t, exec (.drainEnd v x) s = .next t ∧
          s.posted t v { s.steep v with
            state := .filling, stepNumber := some (n + 1), stepMinutes := 0, fillStage := .queued, fillLitres := litres
            delivered := false, fillMinutes := 0, valveOpen := false, outlet := .closed, air := .off } litres ∧
          s.otherSteeps t v ∧
          t = { s with steeps := t.steeps, water := t.water, link := { s.link with image := t.link.image }, port := t.port } ∧
          s.notified t) ∧
      (∀ n, (s.steep v).skip = false → (s.steep v).stepNumber = some n → (s.steepProgram v).steps[n]? = none →
        ∃ t, exec (.drainEnd v x) s = .next t ∧
          t.steep v = { s.steep v with
            state := .done, stepNumber := none, valveOpen := false, outlet := .closed
            air := if (s.steepProgram v).endWithRest then .extract else .off } ∧
          s.otherSteeps t v ∧
          t = { s with steeps := t.steeps, link := { s.link with image := t.link.image }, port := t.port } ∧ s.notified t))

/-- A round start takes the next period and allowance, grants the head free and then the requests behind it in order while their
litres fit, closes the round at the first that does not, and opens the valve of each granted steep. A plant minute of the water timer
counts, and starts a round where the period has run, or none has started yet (R45, R46, R48). -/
def Obligations.RoundStartGrantsFromTheHead : Prop :=
  (∀ s c : State, s.running = true → c = s.withWater { s.water with counted := s.water.counted + 1 } →
    (s.water.started = true → s.water.counted + 1 < s.water.period → s.receive .water = c) ∧
    ((s.water.started = true → s.water.period ≤ s.water.counted + 1) → exec .roundStart c = .next (s.receive .water))) ∧
  ∀ s : State, s.running = true → (s.water.started = true → s.water.period ≤ s.water.counted) →
    (s.water.started = false → 1 ≤ s.water.counted) → (s.water.queue.map (·.steep)).Nodup →
    ∃ t k, exec .roundStart s = .next t ∧ k ≤ s.water.queue.length ∧
      t.water.started = true ∧ t.water.startMinute = s.now ∧ t.water.period = s.settings.nextPw ∧
      t.water.allowance = s.settings.nextAw ∧ t.water.counted = 0 ∧
      t.water.queue = s.water.queue.drop k ∧ t.water.booked = ((s.water.queue.take k).map (·.litres)).sum ∧
      t.water.grants = k ∧ (t.water.closed = true ↔ k < s.water.queue.length) ∧ (s.water.queue ≠ [] → 1 ≤ k) ∧
      (∀ i, 2 ≤ i → i ≤ k → ((s.water.queue.take i).map (·.litres)).sum ≤ s.settings.nextAw) ∧
      (∀ r, s.water.queue[k]? = some r → s.settings.nextAw < t.water.booked + r.litres) ∧
      (∀ r ∈ s.water.queue.take k, (s.steep r.steep).fillStage = .queued → t.steep r.steep = { s.steep r.steep with
        fillStage := .running, fillBaseline := s.held? (steepSite r.steep) .delivered, fillMinutes := 0, valveOpen := true
        timeoutInForce := s.settings.fillTimeouts[r.steep] }) ∧
      (∀ v, v ∉ (s.water.queue.take k).map (·.steep) → t.steep v = s.steep v) ∧
      t = { s with water := t.water, steeps := t.steeps }

/-! ### Germination beds and the turner -/

/-- BOX-HALT, BOX-RESUME and the box-minutes target: the state, the gate and the fan of the box, and its request gone from the turn
queue, whose head an idle turner may then take. BOX-HALT's reply has no clamped flag, since a halt sets no setting (the model's choice, log 19) (R60, R67, R68). -/
def Obligations.BoxRowsAct : Prop :=
  (∀ (s : State) (b : BoxId) (demand : Option Nat) (x : Nat), s.accepts = true →
    ((s.box b).state = .tending ∨ (s.box b).state = .ready) → (s.box b).engaged = false →
    x = settled 0 100 demand (s.box b).fan →
    ∃ t, exec (.boxHalt (Vessel.box b).code demand) s = .next t ∧
      t.box b = { s.box b with state := .halted, held := some (s.box b).state, need := none, fan := x, gate := .closed } ∧
      t.queuedTurn? b = none ∧ s.turnDropped t b ∧ (∀ c, c ≠ b → t.box c = { s.box c with engaged := (t.box c).engaged }) ∧
      t = { s with boxes := t.boxes, turner := t.turner, port := t.port } ∧
      s.replied t 0x2A#8 (.done [.b (s.box b).state.code, .h x])) ∧
  (∀ (s : State) (b : BoxId) (l : Lot) (x : BoxState), s.accepts = true → (s.box b).state = .halted →
    s.lotAt? (.box b) = some l →
    x = (if (s.box b).held = some .ready ∨ (s.boxSettings b).target ≤ l.minBox then .ready else .tending) →
    ∃ t, exec (.boxResume (Vessel.box b).code) s = .next t ∧
      t.box b = { s.box b with state := x, held := none, gate := .closed } ∧ s.otherBoxes t b ∧
      t = { s with boxes := t.boxes, port := t.port } ∧ s.replied t 0x2B#8 (.done [.b x.code])) ∧
  (∀ (s : State) (b : BoxId) (l : Lot), s.running = true → (s.box b).state = .tending → s.lotAt? (.box b) = some l →
    (s.boxSettings b).target ≤ l.minBox →
    ∃ t, exec (.boxMinutesTarget b) s = .next t ∧
      t.box b = { s.box b with state := .ready, need := none, gate := .closed } ∧
      t.queuedTurn? b = none ∧ s.turnDropped t b ∧ (∀ c, c ≠ b → t.box c = { s.box c with engaged := (t.box c).engaged }) ∧
      t = { s with boxes := t.boxes, turner := t.turner, port := t.port } ∧ s.notified t)

/-- The minute of a box: one that holds a lot counts it; a TENDING, READY or HALTED one evaluates the bed, with four usable zones or
more to a mean (by floor), a spread and the hot-bed alarm, with fewer to BLIND; a TENDING or READY one then has its fan demand
(truncated, clamped), a BLIND or HALTED one keeps it. A lot at its target takes its TENDING box to READY (R57 to R60, R64). -/
def Obligations.BoxMinuteEvaluatesTheBed : Prop :=
  ∀ (s : State) (b : BoxId) (values : List Int) (x : BoxSettings), values = s.usableValues b → x = s.boxSettings b →
    let t := s.receive (.box b)
    ((s.box b).state = .empty ∨ (s.box b).state = .loading → t = s) ∧
    (∀ (l : Lot) (since : Nat), s.occupancySound → l ∈ s.lots → l.place = .box b → (s.box b).state ≠ .empty →
      (s.box b).state ≠ .loading → since = l.sinceTurn.getD 0 → since < 4294967295 → l.minBox < 4294967295 →
      t.lot? l.number = some { l with minBox := l.minBox + 1, sinceTurn := some (since + 1) } ∧ s.otherLots t l.number ∧
      ((s.box b).state = .tending → x.target ≤ l.minBox + 1 → (t.box b).state = .ready ∧ (t.box b).need = none ∧
        (t.box b).gate = .closed ∧ t.queuedTurn? b = none) ∧
      ((s.box b).state = .tending → l.minBox + 1 < x.target → (t.box b).state = .tending)) ∧
    ((s.box b).state = .tending ∨ (s.box b).state = .ready ∨ (s.box b).state = .halted →
      (∀ (hi lo mean : Int), 4 ≤ values.length → hi ∈ values → lo ∈ values → (∀ y ∈ values, lo ≤ y ∧ y ≤ hi) →
        mean = values.sum.fdiv values.length →
        (t.box b).blind = false ∧ (t.box b).mean = some mean ∧ (t.box b).spread = some (hi - lo) ∧
        (t.stands (.vessel (.box b)) .boxHot = true ↔ (x.highMean : Int) + 30 ≤ mean) ∧
        t.stands (.vessel (.box b)) .boxBlind = false ∧
        (t.box b).fan = (if (s.box b).state = .halted then (s.box b).fan else
          (max (x.fmin : Int) (min (x.fmax : Int) (Int.tdiv ((mean - x.tset) * x.kf) 10 + x.fbase))).toNat)) ∧
      (values.length < 4 → (t.box b).blind = true ∧ (t.box b).mean = (s.box b).mean ∧ (t.box b).spread = (s.box b).spread ∧
        (t.box b).fan = (s.box b).fan ∧ t.stands (.vessel (.box b)) .boxBlind = true)) ∧
    ((s.box b).state ≠ .tending → (t.box b).state = (s.box b).state ∧ (t.box b).need = (s.box b).need ∧ s.otherBoxes t b ∧
      t = { s with lots := t.lots, boxes := t.boxes, alarms := t.alarms, port := t.port }) ∧
    ((s.box b).state = .transferOut → t.box b = s.box b)

/-- The turn decision of a TENDING box that stays TENDING: none below the minimum interval, and otherwise the reason of the highest
urgency, INTERVAL before HOT before SPREAD where two are equal. A need is posted, or brought into the request the box's own earlier
need has queued, whose minute it keeps; an own request no longer needed is removed; a host request is left, and an engaged box's queue
is. A BLIND box decides nothing (R61, R62, R73). -/
def Obligations.BoxMinuteDecidesTheTurn : Prop :=
  ∀ (s : State) (b : BoxId) (l : Lot) (x : BoxSettings) (values : List Int) (since : Nat), s.occupancySound → l ∈ s.lots →
    l.place = .box b → (s.box b).state = .tending → l.minBox + 1 < x.target → x.target < 4294967296 → x = s.boxSettings b →
    values = s.usableValues b → since = l.sinceTurn.getD 0 + 1 → since < 4294967296 →
    (s.turner.state ≠ .idle ∨ s.turner.knownPosition = none) →
    let t := s.receive (.box b)
    s.otherBoxes t b ∧ t.turner = { s.turner with queue := t.turner.queue } ∧
    queueRemove b t.turner.queue = queueRemove b s.turner.queue ∧
    t = { s with lots := t.lots, boxes := t.boxes, turner := t.turner, alarms := t.alarms, port := t.port } ∧
    (values.length < 4 → (t.box b).need = (s.box b).need ∧ t.turner = s.turner) ∧
    (∀ (mean spread : Int) (need : Option Need), 4 ≤ values.length → (t.box b).mean = some mean → (t.box b).spread = some spread →
      need = (if since < x.minInterval then none
        else if x.maxInterval ≤ since ∧ ((x.highMean : Int) ≤ mean → 500 + (mean - x.highMean) ≤ 1000) ∧
            ((x.spreadThreshold : Int) ≤ spread → spread ≤ 1000) then some { reason := .interval, urgency := 1000 }
        else if (x.highMean : Int) ≤ mean ∧ ((x.spreadThreshold : Int) ≤ spread → spread ≤ 500 + (mean - x.highMean)) then
          some { reason := .hot, urgency := 500 + (mean - x.highMean) }
        else if (x.spreadThreshold : Int) ≤ spread then some { reason := .spread, urgency := spread } else none) →
      (t.box b).need = need ∧
      ((s.box b).engaged = true → t.turner = s.turner) ∧
      ((s.box b).engaged = false →
        (∀ n, need = some n → s.queuedTurn? b = none →
          t.queuedTurn? b = some { box := b, urgency := n.urgency, minute := s.now, reason := n.reason }) ∧
        (∀ n r, need = some n → s.queuedTurn? b = some r → r.reason ≠ .host →
          t.queuedTurn? b = some { r with urgency := n.urgency, reason := n.reason }) ∧
        (∀ r, need = none → s.queuedTurn? b = some r → r.reason ≠ .host → t.queuedTurn? b = none) ∧
        (∀ r, s.queuedTurn? b = some r → r.reason = .host → t.turner = s.turner) ∧
        (need = none → s.queuedTurn? b = none → t.turner = s.turner)))

/-- TURN-NOW makes or finds the box's HOST request, and the other boxes' requests keep their order; an idle turner at a known position
takes it at once. TURN-CANCEL stops a travel at the known position (a position not yet known leaves the target free, log 3) or a pass
where it is, the pass counting as aborted and its target left at the box (the model's choice, log 65), and the new head is taken; or it
takes a waiting request out of the queue. The reply's codes of the three cases are the model's numbering (log 52) (R74 to R76, R78). -/
def Obligations.TurnRequestsAct : Prop :=
  (∀ (s : State) (b : BoxId), s.accepts = true → (s.box b).state = .tending →
    (s.turner.state ≠ .idle → s.engagedOn b = false →
      ∃ t i r, exec (.turnNow (Vessel.box b).code) s = .next t ∧ t.turner.queue[i]? = some r ∧ r.box = b ∧ r.reason = .host ∧
        (s.queuedTurn? b = none → r.urgency = 2000 ∧ r.minute = s.now) ∧
        (∀ old, s.queuedTurn? b = some old → old.reason ≠ .host → r = { old with urgency := 2000, reason := .host }) ∧
        (∀ old, s.queuedTurn? b = some old → old.reason = .host → t.turner.queue = s.turner.queue) ∧
        t.turner = { s.turner with queue := t.turner.queue } ∧
        queueRemove b t.turner.queue = queueRemove b s.turner.queue ∧ t = { s with turner := t.turner, port := t.port } ∧
        s.replied t 0x30#8 (.done [.h ((i + 1 : Nat) : Int)])) ∧
    (∀ p l, s.turner.state = .idle → s.turner.queue = [] → s.turner.knownPosition = some p → s.lotAt? (.box b) = some l →
      ∃ t, exec (.turnNow (Vessel.box b).code) s = .next t ∧
        t.turner = { s.turner with
          state := .travelling, travelMinutes := 0
          operation := some { request := { box := b, urgency := 2000, minute := s.now, reason := .host }, lot := l.number }
          travelLimit := (max p.val (b.val + 1) - min p.val (b.val + 1)) * s.settings.turner.travel + 5
          target := railPosition b, action := .travel } ∧
        t.box b = { s.box b with engaged := true } ∧ s.otherBoxes t b ∧
        t = { s with boxes := t.boxes, turner := t.turner, port := t.port } ∧ s.replied t 0x30#8 (.done [.h 0]))) ∧
  (∀ (s : State) (b : BoxId), s.accepts = true →
    (∀ op, s.turner.state = .passing → s.turner.operation = some op → op.request.box = b → s.turner.queue = [] →
      ∃ t, exec (.turnCancel (Vessel.box b).code) s = .next t ∧
        t.turner = { s.turner with state := .idle, operation := none, action := .stop } ∧
        t.box b = { s.box b with engaged := false } ∧ s.otherBoxes t b ∧ s.otherLots t op.lot ∧
        (∀ l, s.lot? op.lot = some l →
          t.lot? op.lot = some { l with aborted := if l.aborted < 65535 then l.aborted + 1 else l.aborted }) ∧
        t = { s with lots := t.lots, boxes := t.boxes, turner := t.turner, port := t.port } ∧
        s.replied t 0x31#8 (.done [.b 2])) ∧
    (∀ op p, s.turner.state = .travelling → s.turner.operation = some op → op.request.box = b → s.turner.queue = [] →
      s.turner.knownPosition = some p →
      ∃ t, exec (.turnCancel (Vessel.box b).code) s = .next t ∧
        t.turner = { s.turner with state := .idle, operation := none, target := p, action := .stop } ∧
        t.box b = { s.box b with engaged := false } ∧ s.otherBoxes t b ∧
        t = { s with boxes := t.boxes, turner := t.turner, port := t.port } ∧ s.replied t 0x31#8 (.done [.b 1])) ∧
    (∀ op, s.turner.state = .travelling → s.turner.operation = some op → op.request.box = b → s.turner.knownPosition = none →
      ∃ t, exec (.turnCancel (Vessel.box b).code) s = .next t ∧
        t.turner = { s.turner with
          state := .idle, operation := none, target := Config.openTarget s.freeTaken, action := .stop } ∧
        t.box b = { s.box b with engaged := false } ∧ s.otherBoxes t b ∧
        t = { s with boxes := t.boxes, turner := t.turner, freeTaken := s.freeTaken + 1, port := t.port } ∧
        s.replied t 0x31#8 (.done [.b 1])) ∧
    (∀ op r rest p l, s.turner.state = .travelling ∨ s.turner.state = .passing → s.turner.operation = some op →
      op.request.box = b → s.turner.queue = r :: rest → r.box ≠ b → s.turner.knownPosition = some p →
      s.lotAt? (.box r.box) = some l →
      ∃ t, exec (.turnCancel (Vessel.box b).code) s = .next t ∧
        t.turner = { s.turner with
          state := .travelling, queue := rest, operation := some { request := r, lot := l.number }, travelMinutes := 0
          travelLimit := (max p.val (r.box.val + 1) - min p.val (r.box.val + 1)) * s.settings.turner.travel + 5
          target := railPosition r.box, action := .travel } ∧
        t.box b = { s.box b with engaged := false } ∧ t.box r.box = { s.box r.box with engaged := true } ∧
        (∀ c, c ≠ b → c ≠ r.box → t.box c = s.box c) ∧ (s.turner.state = .travelling → t.lots = s.lots) ∧
        (s.turner.state = .passing → s.otherLots t op.lot ∧ ∀ m, s.lot? op.lot = some m →
          t.lot? op.lot = some { m with aborted := if m.aborted < 65535 then m.aborted + 1 else m.aborted }) ∧
        t = { s with lots := t.lots, boxes := t.boxes, turner := t.turner, port := t.port } ∧
        s.replied t 0x31#8 (.done [.b (if s.turner.state = .travelling then 1 else 2)])) ∧
    (∀ r, s.turner.state ≠ .idle → s.engagedOn b = false → s.queuedTurn? b = some r →
      exec (.turnCancel (Vessel.box b).code) s =
        .next ((s.withTurner { s.turner with queue := queueRemove b s.turner.queue }).answer 0x31#8 (.done [.b 3]))))

/-- The turner's own events: the head taken, the arrival that starts the pass, the pass complete with its spray up to the ceiling, a
late travel, the station's fault and the recovery. Its plant minute: TRAVELLING and PASSING count, and end at the limit and at the
length; a stale reading puts a turner that has a known position or an operation in FAULT before the count (the model's reading, log 11;
an unknown position leaves the target free, log 3); FAULT is tested for its recovery, at which no command is written anew (the model's
choice, log 65) (R75 to R77, R80, R81). -/
def Obligations.TurnerEventsAct : Prop :=
  ∀ s : State, s.running = true →
    (∀ r rest p l, s.turner.state = .idle → s.turner.queue = r :: rest → s.turner.knownPosition = some p →
      s.lotAt? (.box r.box) = some l →
      ∃ t, exec .takeHead s = .next t ∧
        t.turner = { s.turner with
          state := .travelling, queue := rest, operation := some { request := r, lot := l.number }, travelMinutes := 0
          travelLimit := (max p.val (r.box.val + 1) - min p.val (r.box.val + 1)) * s.settings.turner.travel + 5
          target := railPosition r.box, action := .travel } ∧
        t.box r.box = { s.box r.box with engaged := true } ∧ s.otherBoxes t r.box ∧
        t = { s with boxes := t.boxes, turner := t.turner, port := t.port } ∧ s.notified t) ∧
    (∀ op p, (s.imageEntry? .turner .position).isSome = true → (s.imageEntry? .turner .motion).isSome = true →
      s.turner.state = .travelling → s.turner.operation = some op → s.turner.target = p →
      ∃ t, exec (.travelEnd p) s = .next t ∧
        t.turner = { s.turner with
          state := .passing, knownPosition := some p, passMinutes := 0, passLength := s.settings.turner.pass
          sprayInForce := s.settings.turner.spray[op.request.box]
          action := if 0 < s.settings.turner.spray[op.request.box] then .passSpray else .pass } ∧
        t = { s with turner := t.turner, link := { s.link with image := t.link.image }, port := t.port } ∧ s.notified t) ∧
    (∀ op l w, s.turner.state = .passing → s.turner.operation = some op → s.turner.passLength ≤ s.turner.passMinutes →
      s.turner.queue = [] → s.lot? op.lot = some l →
      w = (if 0 < s.turner.sprayInForce then min (l.w + s.turner.sprayInForce) l.wcap else l.w) →
      ∃ t, exec .passComplete s = .next t ∧
        t.turner = { s.turner with state := .idle, operation := none, action := .stop } ∧
        t.lot? op.lot = some { l with
          turnCount := if l.turnCount < 65535 then l.turnCount + 1 else l.turnCount, lastTurn := some s.now
          sinceTurn := some 0, w := w, spray := l.spray + (w - l.w) } ∧
        s.otherLots t op.lot ∧ t.box op.request.box = { s.box op.request.box with engaged := false } ∧
        s.otherBoxes t op.request.box ∧
        t = { s with lots := t.lots, boxes := t.boxes, turner := t.turner, port := t.port } ∧ s.notified t) ∧
    (∀ op p, s.turner.state = .travelling → s.turner.operation = some op → s.turner.travelLimit ≤ s.turner.travelMinutes →
      s.turner.knownPosition = some p →
      ∃ t, exec .travelLate s = .next t ∧
        t.turner = { s.turner with
          state := .fault, operation := none, cause := some .travelLate, target := p, action := .stop } ∧
        t.box op.request.box = { s.box op.request.box with engaged := false } ∧ s.otherBoxes t op.request.box ∧
        t.stands .turner .turnerFault = true ∧
        t = { s with boxes := t.boxes, turner := t.turner, alarms := t.alarms, port := t.port } ∧ s.notified t) ∧
    (∀ op p, (s.imageEntry? .turner .motion).isSome = true → s.turner.state = .passing → s.turner.operation = some op →
      s.turner.knownPosition = some p →
      ∃ t, exec .turnerStationFault s = .next t ∧
        t.turner = { s.turner with
          state := .fault, operation := none, cause := some .stationFault, target := p, action := .stop } ∧
        (∀ l, s.lot? op.lot = some l →
          t.lot? op.lot = some { l with aborted := if l.aborted < 65535 then l.aborted + 1 else l.aborted }) ∧
        s.otherLots t op.lot ∧ t.box op.request.box = { s.box op.request.box with engaged := false } ∧
        s.otherBoxes t op.request.box ∧ t.stands .turner .turnerFault = true ∧
        t = { s with lots := t.lots, boxes := t.boxes, turner := t.turner, alarms := t.alarms
                     link := { s.link with image := t.link.image }, port := t.port } ∧ s.notified t) ∧
    (s.turner.state = .fault → s.isFresh .turner .position = true → s.isFresh .turner .motion = true →
      s.motion? ≠ some .fault → s.turner.queue = [] →
      ∃ t, exec .turnerRecovery s = .next t ∧ t.turner = { s.turner with state := .idle, cause := none } ∧
        t.stands .turner .turnerFault = false ∧
        t = { s with turner := t.turner, alarms := t.alarms, port := t.port } ∧ s.notified t) ∧
    let u := s.receive .turner
    (s.turner.state = .fault →
      ((s.isFresh .turner .position = false ∨ s.isFresh .turner .motion = false ∨ s.motion? = some .fault) → u = s) ∧
      exec .turnerRecovery s = .next u) ∧
    (s.turner.state = .idle →
      s.turner.knownPosition = none ∨ (s.isFresh .turner .position = true ∧ s.isFresh .turner .motion = true) → u = s) ∧
    (s.isFresh .turner .position = true → s.isFresh .turner .motion = true →
      (∀ c, s.turner.state = .travelling → c = s.withTurner { s.turner with travelMinutes := s.turner.travelMinutes + 1 } →
        (s.turner.travelMinutes + 1 < s.turner.travelLimit → u = c) ∧
        (s.turner.travelLimit ≤ s.turner.travelMinutes + 1 → exec .travelLate c = .next u)) ∧
      (∀ c, s.turner.state = .passing → c = s.withTurner { s.turner with passMinutes := s.turner.passMinutes + 1 } →
        (s.turner.passMinutes + 1 < s.turner.passLength → u = c) ∧
        (s.turner.operation ≠ none → s.turner.passLength ≤ s.turner.passMinutes + 1 → exec .passComplete c = .next u))) ∧
    (s.isFresh .turner .position = false ∨ s.isFresh .turner .motion = false → s.turner.state ≠ .fault →
      (s.turner.state = .idle → s.turner.knownPosition ≠ none) →
      u.turner = { s.turner with
        state := .fault, operation := none, cause := some .stale, action := .stop
        target := s.turner.knownPosition.getD (Config.openTarget s.freeTaken) } ∧
      u.freeTaken = s.freeTaken + (if s.turner.knownPosition.isSome then 0 else 1) ∧ u.stands .turner .turnerFault = true ∧
      (∀ op, s.turner.operation = some op → u.box op.request.box = { s.box op.request.box with engaged := false } ∧
        s.otherBoxes u op.request.box ∧ s.otherLots u op.lot ∧
        ∀ l, s.lot? op.lot = some l → u.lot? op.lot = some { l with
          aborted := if s.turner.state = .passing ∧ l.aborted < 65535 then l.aborted + 1 else l.aborted }) ∧
      (s.turner.operation = none → u.boxes = s.boxes ∧ u.lots = s.lots) ∧
      u = { s with lots := u.lots, boxes := u.boxes, turner := u.turner, freeTaken := u.freeTaken, alarms := u.alarms
                   port := u.port } ∧ s.notified u)

/-! ### Kilns and the peat fire -/

/-- KILN-FORCE-PHASE and KILN-TRIP-CLEAR: a forced break, CURING given as the code of either of its sub-states (the model's choice,
log 27), starts the cure at Tfd and writes the break, a forced cooling shuts the burner and clears the hold minutes (the model's choice,
log 23), and a cleared trip gives back the remembered phase with its commands (R97, R102, R113). -/
def Obligations.KilnRequestsAct : Prop :=
  ∀ (s : State) (k : KilnId), s.accepts = true →
    (∀ l code, (s.kiln k).phase = .freeDry → s.lotAt? (.kiln k) = some l →
      (code = KilnPhase.curingRamp.code ∨ code = KilnPhase.curingHold.code) →
      ∃ t, exec (.kilnForcePhase (Vessel.kiln k).code code) s = .next t ∧
        (t.kiln k).phase = .curingRamp ∧ (t.kiln k).ramp = (s.kilnProgram k).tfd ∧
        (t.kiln k).setpoint = (s.kilnProgram k).tfd ∧ (t.kiln k).holdMinutes = 0 ∧ (t.kiln k).damperOpen = false ∧
        t.lotAt? (.kiln k) = some { l with
          breakMinute := some s.now, forced := true, shortfall := some (l.peatTarget - l.peatGiven) } ∧
        t.peat.asking[k] = false ∧ t.stands (.vessel (.kiln k)) .breakLate = false ∧
        t.stands (.vessel (.kiln k)) .kilnDropLow = false ∧
        (l.peatGiven < l.peatTarget → t.stands (.vessel (.kiln k)) .peatShort = true) ∧ s.otherKilns t k ∧
        t = { s with lots := t.lots, kilns := t.kilns, peat := t.peat, alarms := t.alarms, port := t.port } ∧
        s.replied t 0x39#8 (.done [.b KilnPhase.curingRamp.code])) ∧
    ((s.kiln k).phase = .curingRamp ∨ (s.kiln k).phase = .curingHold →
      ∃ t, exec (.kilnForcePhase (Vessel.kiln k).code KilnPhase.cooling.code) s = .next t ∧
        t.kiln k = { s.kiln k with phase := .cooling, holdMinutes := 0, setpoint := 0, gate := .closed, damperOpen := false } ∧
        s.otherKilns t k ∧ t = { s with kilns := t.kilns, port := t.port } ∧
        s.replied t 0x39#8 (.done [.b KilnPhase.cooling.code])) ∧
    (∀ x ton, (s.kiln k).phase = .tripped → (s.kiln k).remembered = some x → s.fresh? (kilnSite k) .ton = some ton →
      ton ≤ ((s.kilnProgram k).tmax : Int) - 50 →
      ∃ t, exec (.kilnTripClear (Vessel.kiln k).code) s = .next t ∧
        t.kiln k = { s.kiln k with
          phase := x, remembered := none, setpoint := s.phaseSetpoint k x, gate := kilnGate x
          damperOpen := x == .freeDry && (s.kiln k).peatGrant } ∧
        t.stands (.vessel (.kiln k)) .kilnOverheat = false ∧
        t.peat = (if x = .freeDry then { s.peat with asking := s.peat.asking.set k true } else s.peat) ∧ s.otherKilns t k ∧
        t = { s with kilns := t.kilns, peat := t.peat, alarms := t.alarms, port := t.port } ∧
        s.replied t 0x3A#8 (.done [.b x.code]))

/-- The kiln's own events: the break, BREAK-LATE, the end of curing, the standby setpoint of a blind kiln, and the trip, which
remembers the phase, shuts the burner and the damper and gives up the fire; the end of curing clears the hold minutes and the trip the
blind minutes (the model's choices, logs 23 and 13). Its minute: a ramp below Tc rises by Rr up to it and holds there, the hold counts
and ends, the cooling ends at Tcool, a lockout stops both counts, and a blind minute makes no test (R95, R96, R98 to R100, R103). -/
def Obligations.KilnEventsAct : Prop :=
  ∀ (s : State) (k : KilnId), s.running = true →
    (∀ l, (s.kiln k).phase = .freeDry → (s.kilnProgram k).nb ≤ (s.kiln k).breakCount → s.lotAt? (.kiln k) = some l →
      ∃ t, exec (.kilnBreak k) s = .next t ∧
        (t.kiln k).phase = .curingRamp ∧ (t.kiln k).ramp = (s.kilnProgram k).tfd ∧
        (t.kiln k).setpoint = (s.kilnProgram k).tfd ∧ (t.kiln k).holdMinutes = 0 ∧ (t.kiln k).damperOpen = false ∧
        t.lotAt? (.kiln k) = some { l with
          breakMinute := some s.now, forced := false, shortfall := some (l.peatTarget - l.peatGiven) } ∧
        t.peat.asking[k] = false ∧ (s.peat.holder = some k → t.peat.state = .free ∧ t.peat.holder = none ∧ t.peat.route = none) ∧
        t.stands (.vessel (.kiln k)) .breakLate = false ∧ t.stands (.vessel (.kiln k)) .kilnDropLow = false ∧
        (l.peatGiven < l.peatTarget → t.stands (.vessel (.kiln k)) .peatShort = true) ∧ s.otherKilns t k ∧
        t = { s with lots := t.lots, kilns := t.kilns, peat := t.peat, alarms := t.alarms, port := t.port } ∧ s.notified t) ∧
    ((s.kiln k).phase = .freeDry → (s.kiln k).breakLate = false → (s.kilnProgram k).maxFreeDry ≤ (s.kiln k).freeDryMinutes →
      ∃ t, exec (.breakLate k) s = .next t ∧ t.kiln k = { s.kiln k with breakLate := true } ∧
        t.stands (.vessel (.kiln k)) .breakLate = true ∧ s.otherKilns t k ∧
        t = { s with kilns := t.kilns, alarms := t.alarms, port := t.port } ∧ s.notified t) ∧
    (∀ l, (s.kiln k).phase = .curingHold → (s.kilnProgram k).hc ≤ (s.kiln k).holdMinutes → s.lotAt? (.kiln k) = some l →
      l.w ≤ (s.kilnProgram k).wfinal →
      ∃ t, exec (.curingEnd k) s = .next t ∧
        t.kiln k = { s.kiln k with phase := .cooling, holdMinutes := 0, setpoint := 0, gate := .closed, damperOpen := false } ∧
        s.otherKilns t k ∧ t = { s with kilns := t.kilns, port := t.port } ∧ s.notified t) ∧
    ((s.kiln k).phase = .freeDry ∨ (s.kiln k).phase = .curingRamp ∨ (s.kiln k).phase = .curingHold ∨ (s.kiln k).phase = .cooling →
      11 ≤ (s.kiln k).blindMinutes →
      exec (.kilnStandby k) s = .next (s.withKiln k { s.kiln k with
        setpoint := min (s.phaseSetpoint k (s.kiln k).phase) 300 })) ∧
    (∀ ton, (s.imageEntry? (kilnSite k) .ton).isSome = true → (s.kiln k).phase ≠ .tripped →
      ((s.kilnProgram k).tmax : Int) < ton →
      ∃ t, exec (.kilnTrip k ton) s = .next t ∧
        t.kiln k = { s.kiln k with
          phase := .tripped, remembered := some (s.kiln k).phase, setpoint := 0, damperOpen := false, blindMinutes := 0
          peatGrant := (s.kiln k).peatGrant && decide (s.peat.holder ≠ some k) } ∧
        t.peat.asking[k] = false ∧ (s.peat.holder = some k → t.peat.state = .free ∧ t.peat.holder = none ∧ t.peat.route = none) ∧
        t.stands (.vessel (.kiln k)) .kilnOverheat = true ∧ t.stands (.vessel (.kiln k)) .kilnBlind = false ∧
        s.otherKilns t k ∧
        t = { s with kilns := t.kilns, peat := t.peat, alarms := t.alarms
                     link := { s.link with image := t.link.image }, port := t.port } ∧ s.notified t) ∧
    let u := s.receive (.kiln k)
    (∀ ton toff, s.fresh? (kilnSite k) .ton = some ton → s.fresh? (kilnSite k) .toff = some toff →
      ((s.kiln k).phase = .curingRamp → (u.kiln k).blindMinutes = 0 ∧ u.stands (.vessel (.kiln k)) .kilnBlind = false ∧
        s.otherKilns u k ∧ (u.kiln k).breakCount = (s.kiln k).breakCount ∧
        (s.burner? k ≠ some .lockout → ∀ r, r = min ((s.kiln k).ramp + (s.kilnProgram k).rr) (s.kilnProgram k).tc →
          (u.kiln k).ramp = r ∧ (u.kiln k).setpoint = r ∧
          (r < (s.kilnProgram k).tc → (u.kiln k).phase = .curingRamp) ∧
          (r = (s.kilnProgram k).tc → (u.kiln k).phase = .curingHold ∧ (u.kiln k).holdMinutes = 0)) ∧
        (s.burner? k = some .lockout → (s.kiln k).ramp < (s.kilnProgram k).tc →
          (u.kiln k).ramp = (s.kiln k).ramp ∧ (u.kiln k).setpoint = (s.kiln k).ramp ∧ (u.kiln k).phase = .curingRamp)) ∧
      (∀ m hold, (s.kiln k).phase = .curingHold → u.lotAt? (.kiln k) = some m →
        hold = (if s.burner? k = some .lockout then (s.kiln k).holdMinutes else (s.kiln k).holdMinutes + 1) →
        ((s.kilnProgram k).hc ≤ hold → m.w ≤ (s.kilnProgram k).wfinal →
          (u.kiln k).phase = .cooling ∧ (u.kiln k).setpoint = 0) ∧
        (hold < (s.kilnProgram k).hc ∨ (s.kilnProgram k).wfinal < m.w →
          (u.kiln k).phase = .curingHold ∧ (u.kiln k).holdMinutes = hold ∧ (u.kiln k).setpoint = (s.kilnProgram k).tc)) ∧
      ((s.kiln k).phase = .cooling → (u.kiln k).setpoint = 0 ∧
        (u.kiln k).phase = (if ton ≤ (s.kilnProgram k).tcool then .ready else .cooling))) ∧
    ((s.fresh? (kilnSite k) .ton = none ∨ s.fresh? (kilnSite k) .toff = none) →
      (s.kiln k).phase = .freeDry ∨ (s.kiln k).phase = .curingRamp ∨ (s.kiln k).phase = .curingHold ∨
        (s.kiln k).phase = .cooling →
      (u.kiln k).phase = (s.kiln k).phase ∧ (u.kiln k).blindMinutes = (s.kiln k).blindMinutes + 1 ∧
      (u.kiln k).breakCount = (s.kiln k).breakCount ∧ (u.kiln k).ramp = (s.kiln k).ramp ∧
      (u.kiln k).holdMinutes = (s.kiln k).holdMinutes ∧ u.stands (.vessel (.kiln k)) .kilnBlind = true ∧
      (u.kiln k).setpoint = (if 10 ≤ (s.kiln k).blindMinutes then min (s.phaseSetpoint k (s.kiln k).phase) 300
        else (s.kiln k).setpoint) ∧ s.otherKilns u k ∧
      u = { s with kilns := u.kilns, alarms := u.alarms, port := u.port }) ∧
    ((s.kiln k).phase = .empty ∨ (s.kiln k).phase = .loading ∨ (s.kiln k).phase = .ready ∨ (s.kiln k).phase = .unloading ∨
      (s.kiln k).phase = .tripped → u = s)

/-- At a kiln minute that is not blind and finds D0, Q is the floor of D × 1024 / D0 capped at 1024, and W is the smaller of W and
the estimate formed from Wload and Wend, in FREE-DRY, CURING and COOLING alike; a blind minute writes neither, and in READY the
computation stops. In FREE-DRY a kiln without D0 captures it, or from minute 30 on raises KILN-DROP-LOW, and the break count follows Q
(R92 to R94). -/
def Obligations.DryingFollowsTheRatio : Prop :=
  ∀ (s : State) (k : KilnId) (l : Lot), s.lotAt? (.kiln k) = some l →
    let t := s.receive (.kiln k)
    (∀ (ton toff d0 : Int) (wload q est : Nat),
      (s.kiln k).phase = .freeDry ∨ (s.kiln k).phase = .curingRamp ∨ (s.kiln k).phase = .curingHold ∨ (s.kiln k).phase = .cooling →
      s.fresh? (kilnSite k) .ton = some ton → s.fresh? (kilnSite k) .toff = some toff → l.d0 = some d0 → 20 ≤ d0 →
      l.wload = some wload → (q : Int) = min 1024 ((max 0 (ton - toff) * 1024).fdiv d0) →
      est = (if (s.kilnProgram k).wend < wload then
        (s.kilnProgram k).wend + (wload - (s.kilnProgram k).wend) * q / 1024 else wload) →
      q ≤ 1024 ∧ est ≤ wload ∧ ((s.kilnProgram k).wend ≤ wload → (s.kilnProgram k).wend ≤ est) ∧
      ∃ m, t.lotAt? (.kiln k) = some m ∧ m.number = l.number ∧ m.q = some q ∧ m.w = min l.w est ∧
        ((s.kiln k).phase = .freeDry → ∀ count, count = (if q ≤ (s.kilnProgram k).qb then (s.kiln k).breakCount + 1 else 0) →
          (t.kiln k).breakCount = count ∧
          (t.kiln k).phase = (if (s.kilnProgram k).nb ≤ count then .curingRamp else .freeDry)) ∧
        ((s.kiln k).phase ≠ .freeDry → (t.kiln k).breakCount = (s.kiln k).breakCount)) ∧
    (∀ (ton toff : Int) (wload : Nat), (s.kiln k).phase = .freeDry → s.fresh? (kilnSite k) .ton = some ton →
      s.fresh? (kilnSite k) .toff = some toff → l.d0 = none → l.wload = some wload →
      (((s.kilnProgram k).tfd : Int) - 10 ≤ ton → 20 ≤ ton - toff →
        (∃ m, t.lotAt? (.kiln k) = some m ∧ m.number = l.number ∧ m.d0 = some (ton - toff) ∧ m.q = some 1024 ∧
          m.w = min l.w wload) ∧ t.stands (.vessel (.kiln k)) .kilnDropLow = false) ∧
      ((ton < (s.kilnProgram k).tfd - 10 ∨ ton - toff < 20) → (s.kiln k).breakCount < (s.kilnProgram k).nb →
        t.lots = s.lots ∧ (t.kiln k).phase = .freeDry ∧ (t.kiln k).breakCount = (s.kiln k).breakCount ∧
        t.stands (.vessel (.kiln k)) .kilnDropLow =
          (s.stands (.vessel (.kiln k)) .kilnDropLow || decide (30 ≤ (s.kiln k).freeDryMinutes + 1)))) ∧
    (s.fresh? (kilnSite k) .ton = none ∨ s.fresh? (kilnSite k) .toff = none → t.lots = s.lots) ∧
    ((s.kiln k).phase = .ready → t = s)

/-- The peat fire's events: the end of a spell passes the fire to the other kiln that asks, or renews it, or frees it; a switch that
has settled opens the holder's damper; OUT raises PEAT-OUT while the fire is not FREE, and BURNING ends it. Its minute: a holder in
FREE-DRY that requests gains a peat minute while the fire burns, and is released at its target; the spell or the switchover counts and
ends where it is due; a holder that no longer requests gives the fire up, to the other kiln where that requests; a FREE fire goes to the
kiln that requests, of two to the one with more peat minutes remaining, K1 where they are equal (R107 to R112). -/
def Obligations.PeatEventsAct : Prop :=
  ∀ s : State, s.running = true →
    (∀ k j, s.peat.state = .granted → s.peat.holder = some k → s.peat.spellLength ≤ s.peat.spellMinutes → j ≠ k →
      (s.requesting k = true → s.requesting j = true →
        ∃ t, exec .spellEnd s = .next t ∧
          t.peat = { s.peat with
            state := .switching, holder := some j, route := some j, switchMinutes := 0
            switchTime := s.settings.peat.switchover } ∧
          t.kiln k = { s.kiln k with peatGrant := false, damperOpen := false } ∧ s.otherKilns t k ∧
          (s.fire? = some .out → t.stands .peat .peatOut = true) ∧
          t = { s with kilns := t.kilns, peat := t.peat, alarms := t.alarms, port := t.port } ∧ s.notified t) ∧
      (s.requesting k = true → s.requesting j = false → exec .spellEnd s = .next (s.withPeat { s.peat with
        spellMinutes := 0, spellLength := s.settings.peat.spell })) ∧
      (s.requesting k = false → s.requesting j = false →
        ∃ t, exec .spellEnd s = .next t ∧
          t.peat = { s.peat with state := .free, holder := none, route := none, switchMinutes := 0, spellMinutes := 0 } ∧
          t.kiln k = { s.kiln k with peatGrant := false, damperOpen := false } ∧ s.otherKilns t k ∧
          t.stands .peat .peatOut = false ∧
          t = { s with kilns := t.kilns, peat := t.peat, alarms := t.alarms, port := t.port } ∧ s.notified t)) ∧
    (∀ k, s.peat.state = .switching → s.peat.holder = some k → s.requesting k = true →
      s.peat.switchTime ≤ s.peat.switchMinutes → s.route? = some (RouteReading.ofKiln k) →
      ∃ t, exec .switchoverSettle s = .next t ∧
        t.peat = { s.peat with
          state := .granted, route := some k, spellMinutes := 0, spellLength := s.settings.peat.spell } ∧
        t.kiln k = { s.kiln k with peatGrant := true, damperOpen := (s.kiln k).phase == .freeDry } ∧ s.otherKilns t k ∧
        t = { s with kilns := t.kilns, peat := t.peat, port := t.port } ∧ s.notified t) ∧
    ((s.imageEntry? .peat .fireState).isSome = true →
      (s.peat.state ≠ .free → ∃ t, exec .peatOut s = .next t ∧ t.fire? = some .out ∧ t.stands .peat .peatOut = true ∧
        t = { s with alarms := t.alarms, link := { s.link with image := t.link.image }, port := t.port } ∧ s.notified t) ∧
      (s.peat.state = .free → ∃ t, exec .peatOut s = .next t ∧ t.fire? = some .out ∧
        t = { s with link := { s.link with image := t.link.image } }) ∧
      ∃ t, exec .fireBurning s = .next t ∧ t.fire? = some .burning ∧ t.stands .peat .peatOut = false ∧
        t = { s with alarms := t.alarms, link := { s.link with image := t.link.image }, port := t.port } ∧ s.notified t) ∧
    let u := s.receive .peat
    (∀ k l, s.peat.state = .granted → s.peat.holder = some k → s.lotAt? (.kiln k) = some l → s.requesting k = true →
      (s.fire? = some .burning → (s.kiln k).phase = .freeDry →
        u.lotAt? (.kiln k) = some { l with peatGiven := l.peatGiven + 1 } ∧
        (∀ x, x.place ≠ .kiln k → (x ∈ u.lots ↔ x ∈ s.lots)) ∧
        (l.peatGiven + 1 < l.peatTarget → s.peat.spellMinutes + 1 < s.peat.spellLength →
          u.peat = { s.peat with spellMinutes := s.peat.spellMinutes + 1, requested := u.peat.requested } ∧
          u = { s with lots := u.lots, peat := u.peat }) ∧
        (l.peatGiven + 1 = l.peatTarget → (∀ j, j ≠ k → s.requesting j = false) →
          u.peat = { s.peat with
            state := .free, holder := none, route := none, switchMinutes := 0, spellMinutes := 0
            requested := u.peat.requested } ∧
          u.kiln k = { s.kiln k with peatGrant := false, damperOpen := false } ∧ s.otherKilns u k ∧
          u.stands .peat .peatOut = false ∧
          u = { s with lots := u.lots, kilns := u.kilns, peat := u.peat, alarms := u.alarms, port := u.port })) ∧
      ((s.fire? ≠ some .burning ∨ (s.kiln k).phase ≠ .freeDry) → s.peat.spellMinutes + 1 < s.peat.spellLength →
        u = s.withPeat { s.peat with spellMinutes := s.peat.spellMinutes + 1, requested := u.peat.requested })) ∧
    (∀ k, s.peat.state = .switching → s.peat.holder = some k → s.requesting k = true →
      (s.peat.switchMinutes + 1 < s.peat.switchTime ∨ s.route? ≠ some (RouteReading.ofKiln k)) →
      u = s.withPeat { s.peat with switchMinutes := s.peat.switchMinutes + 1, requested := u.peat.requested }) ∧
    (s.peat.state = .free → s.requesting 0 = false → s.requesting 1 = false →
      u = s.withPeat { s.peat with requested := u.peat.requested }) ∧
    let goesTo := fun (j : KilnId) (minutes : Nat) => { s.peat with
      state := .switching, holder := some j, route := some j, switchMinutes := 0, spellMinutes := minutes
      switchTime := s.settings.peat.switchover, requested := u.peat.requested }
    let told := s.fire? = some .out → u.stands .peat .peatOut = true
    (∀ k, s.peat.state = .free → s.requesting k = true →
      (∀ j l m, j ≠ k → s.requesting j = true → s.lotAt? (.kiln k) = some l → s.lotAt? (.kiln j) = some m →
        m.peatTarget - m.peatGiven < l.peatTarget - l.peatGiven ∨
          (m.peatTarget - m.peatGiven = l.peatTarget - l.peatGiven ∧ k = 0)) →
      u.peat = goesTo k s.peat.spellMinutes ∧ told ∧
      u = { s with kilns := u.kilns, peat := u.peat, alarms := u.alarms, port := u.port } ∧ s.notified u ∧
      (s.peat.holder = none → u.kilns = s.kilns)) ∧
    (∀ k j, s.peat.state = .granted ∨ s.peat.state = .switching → s.peat.holder = some k → s.requesting k = false → j ≠ k →
      u.kiln k = { s.kiln k with peatGrant := false, damperOpen := false } ∧ s.otherKilns u k ∧
      u = { s with kilns := u.kilns, peat := u.peat, alarms := u.alarms, port := u.port } ∧ s.notified u ∧
      (s.requesting j = true → u.peat = goesTo j 0 ∧ told ∧ (s.fire? ≠ some .out → u.stands .peat .peatOut = false)) ∧
      (s.requesting j = false → u.stands .peat .peatOut = false ∧ u.peat = { s.peat with
        state := .free, holder := none, route := none, switchMinutes := 0, spellMinutes := 0
        requested := u.peat.requested })) ∧
    (∀ k j l, s.peat.state = .granted → s.peat.holder = some k → s.lotAt? (.kiln k) = some l → s.requesting k = true → j ≠ k →
      s.fire? = some .burning → (s.kiln k).phase = .freeDry → l.peatGiven + 1 = l.peatTarget → s.requesting j = true →
      u.lotAt? (.kiln k) = some { l with peatGiven := l.peatGiven + 1 } ∧ u.peat = goesTo j 0 ∧
      u.stands .peat .peatOut = false ∧
      u.kiln k = { s.kiln k with peatGrant := false, damperOpen := false } ∧ s.otherKilns u k ∧
      u = { s with lots := u.lots, kilns := u.kilns, peat := u.peat, alarms := u.alarms, port := u.port } ∧ s.notified u) ∧
    (∀ k l c, s.peat.state = .granted → s.peat.holder = some k → s.lotAt? (.kiln k) = some l → s.requesting k = true →
      (s.fire? = some .burning → (s.kiln k).phase = .freeDry → l.peatGiven + 1 < l.peatTarget) →
      s.peat.spellLength ≤ s.peat.spellMinutes + 1 →
      c = { s with
        lots := u.lots
        peat := { s.peat with spellMinutes := s.peat.spellMinutes + 1, requested := u.peat.requested } } →
      exec .spellEnd c = .next u) ∧
    (∀ k c, s.peat.state = .switching → s.peat.holder = some k → s.requesting k = true →
      s.peat.switchTime ≤ s.peat.switchMinutes + 1 → s.route? = some (RouteReading.ofKiln k) →
      c = s.withPeat { s.peat with switchMinutes := s.peat.switchMinutes + 1, requested := u.peat.requested } →
      exec .switchoverSettle c = .next u)

/-! ### The sampler and the journal -/

/-- A draw starts for the head of the pending draws at the first READY pot after the last drawn position, wrapping, and its lot's
transfer flows: its source enters TRANSFER-OUT, a steep with its step minutes at 0 (the model's choice, log 55), a kiln UNLOADING, and
a vessel it goes to LOADING (R14, R122). -/
def Obligations.DrawStartTakesTheNextPot : Prop :=
  ∀ (s : State) (d : PendingDraw) (rest : List PendingDraw) (p : PotId), s.running = true → s.sampler.state = .idle →
    s.sampler.pending = d :: rest → s.nextReady p →
    ∃ t, exec .drawStart s = .next t ∧
      t.sampler = { s.sampler with
        state := .drawing, lastDrawn := p.val + 1, draw := some { lot := d.lot, point := d.point, pot := p, minutes := 0 }
        pending := rest, command := some p, pots := t.sampler.pots } ∧
      t.pot p = { state := .drawing, sample := none } ∧ s.otherPots t p ∧ s.otherLots t d.lot ∧
      (∀ l tr, s.lot? d.lot = some l → l.transfer = some tr → t.lot? d.lot = some { l with transfer := some { tr with
        flowing := true, minutes := 0, timeout := some s.settings.transferTimeout } } ∧ s.vesselsFlow t l.place tr.dest) ∧
      t = { s with lots := t.lots, steeps := t.steeps, water := t.water, boxes := t.boxes, kilns := t.kilns, peat := t.peat
                   sampler := t.sampler, alarms := t.alarms, port := t.port } ∧ s.notified t

/-- The end of a draw whose source does not read EMPTY: DONE numbers a SAMPLE entry with the lot's W and fills the pot; a failure
numbers a MISSED entry and spoils it; either leaves the sampler CLEARING, and IDLE ends that. A plant minute counts for a draw, which
fails at 10 (R123, R124, R126). -/
def Obligations.DrawEndsAreEntered : Prop :=
  ∀ s : State, s.running = true →
    (∀ d l, s.sampler.state = .drawing → s.sampler.draw = some d → s.lot? d.lot = some l → s.bedEmpty l.place = false →
      ((s.imageEntry? .sampler .drawStatus).isSome = true →
        (∃ t, exec .drawDone s = .next t ∧
          s.numbered t { Entry.blank .sample d.lot with
            number := s.journal.next, minute := s.now, point := some d.point, pot := d.pot.val + 1, w := l.w } ∧
          t.journal.reserved = s.journal.reserved - 1 ∧
          t.pot d.pot = { state := .filled, sample := some { lot := d.lot, point := d.point, number := s.journal.next } } ∧
          s.otherPots t d.pot ∧ t.lot? d.lot = some (l.resolve d.point s.journal.next) ∧ s.otherLots t d.lot ∧
          t.sampler = { s.sampler with state := .clearing, draw := none, command := none, pots := t.sampler.pots } ∧
          t = { s with lots := t.lots, sampler := t.sampler, journal := t.journal, alarms := t.alarms
                       link := { s.link with image := t.link.image }, port := t.port } ∧ s.notified t) ∧
        (∃ t, exec .drawFailed s = .next t ∧
          s.numbered t { Entry.blank .missed d.lot with
            number := s.journal.next, minute := s.now, point := some d.point, reason := some .drawFailed } ∧
          t.journal.reserved = s.journal.reserved - 2 ∧ t.pot d.pot = { state := .spoiled, sample := none } ∧
          s.otherPots t d.pot ∧ t.lot? d.lot = some (l.resolve d.point s.journal.next) ∧ s.otherLots t d.lot ∧
          t.sampler = { s.sampler with state := .clearing, draw := none, command := none, pots := t.sampler.pots } ∧
          t = { s with lots := t.lots, sampler := t.sampler, journal := t.journal, alarms := t.alarms
                       link := { s.link with image := t.link.image }, port := t.port } ∧ s.notified t)) ∧
      (10 ≤ d.minutes →
        ∃ t, exec .drawTimeout s = .next t ∧
          s.numbered t { Entry.blank .missed d.lot with
            number := s.journal.next, minute := s.now, point := some d.point, reason := some .drawFailed } ∧
          t.journal.reserved = s.journal.reserved - 2 ∧ t.pot d.pot = { state := .spoiled, sample := none } ∧
          s.otherPots t d.pot ∧ t.lot? d.lot = some (l.resolve d.point s.journal.next) ∧ s.otherLots t d.lot ∧
          t.sampler = { s.sampler with state := .clearing, draw := none, command := none, pots := t.sampler.pots } ∧
          t = { s with lots := t.lots, sampler := t.sampler, journal := t.journal, alarms := t.alarms, port := t.port } ∧
          s.notified t)) ∧
    ((s.imageEntry? .sampler .drawStatus).isSome = true → s.sampler.state = .clearing → s.sampler.pending = [] →
      ∃ t, exec .clearingEnd s = .next t ∧ t.sampler = { s.sampler with state := .idle } ∧
        t.stands .sampler .noPot = false ∧
        t = { s with sampler := t.sampler, alarms := t.alarms, link := { s.link with image := t.link.image }, port := t.port } ∧
        s.notified t) ∧
    (s.sampler.state ≠ .drawing → s.receive .sampler = s) ∧
    (∀ d c, s.sampler.state = .drawing → s.sampler.draw = some d →
      c = s.withSampler { s.sampler with draw := some { d with minutes := d.minutes + 1 } } →
      (d.minutes + 1 < 10 → s.receive .sampler = c) ∧
      (10 ≤ d.minutes + 1 → exec .drawTimeout c = .next (s.receive .sampler)))

/-- A presence mask that tells of one pot, while no draw may start at it: an ABSENT one that is present is READY; a READY, SPOILED or
UNKNOWN one that is gone is ABSENT; a FILLED one that is gone is ABSENT with a COLLECTED entry that refers to its SAMPLE; and a DRAWING
one that is gone is ABSENT with a MISSED entry, ABORTED, which ends the draw. NO-POT stands then where a draw waits and no pot is READY
(R116, R118, R120, R125). -/
def Obligations.PresenceMovesThePots : Prop :=
  ∀ (s : State) (upper : Bool) (mask : BitVec 12) (i : Fin 12) (p : PotId), s.running = true →
    (s.imageEntry? .sampler (maskReading upper)).isSome = true → s.sampler.state ≠ .rebuilding →
    (s.sampler.state = .idle → s.sampler.pending = []) → p = maskPot upper i →
    (∀ j, j ≠ i → s.quietPot (maskPot upper j) (mask.getLsbD j.val)) →
    let noPot := fun t : State =>
      t.stands .sampler .noPot = true ↔ t.sampler.pending ≠ [] ∧ ∀ q, (t.pot q).state ≠ .ready
    (mask.getLsbD i.val = true → (s.pot p).state = .absent →
      ∃ t, exec (.presenceEvent upper mask) s = .next t ∧ t.pot p = { state := .ready, sample := none } ∧ s.otherPots t p ∧
        t.sampler = { s.sampler with pots := t.sampler.pots } ∧ noPot t ∧
        t = { s with sampler := t.sampler, alarms := t.alarms, link := { s.link with image := t.link.image }, port := t.port } ∧
        s.notified t) ∧
    (mask.getLsbD i.val = false → (s.pot p).state = .ready ∨ (s.pot p).state = .spoiled ∨ (s.pot p).state = .unknown →
      ∃ t, exec (.presenceEvent upper mask) s = .next t ∧ t.pot p = { state := .absent, sample := none } ∧ s.otherPots t p ∧
        t.sampler = { s.sampler with pots := t.sampler.pots } ∧ noPot t ∧
        t = { s with sampler := t.sampler, alarms := t.alarms, link := { s.link with image := t.link.image }, port := t.port } ∧
        s.notified t) ∧
    (∀ x, mask.getLsbD i.val = false → s.pot p = { state := .filled, sample := some x } →
      ∃ t, exec (.presenceEvent upper mask) s = .next t ∧ t.pot p = { state := .absent, sample := none } ∧ s.otherPots t p ∧
        s.numbered t { Entry.blank .collected x.lot with
          number := s.journal.next, minute := s.now, pot := p.val + 1, ref := x.number } ∧
        t.journal.reserved = s.journal.reserved - 1 ∧ t.sampler = { s.sampler with pots := t.sampler.pots } ∧ noPot t ∧
        t = { s with sampler := t.sampler, journal := t.journal, alarms := t.alarms
                     link := { s.link with image := t.link.image }, port := t.port } ∧ s.notified t) ∧
    (∀ d l, mask.getLsbD i.val = false → (s.pot p).state = .drawing → s.sampler.draw = some d → d.pot = p →
      s.lot? d.lot = some l → s.bedEmpty l.place = false →
      ∃ t, exec (.presenceEvent upper mask) s = .next t ∧ t.pot p = { state := .absent, sample := none } ∧ s.otherPots t p ∧
        s.numbered t { Entry.blank .missed d.lot with
          number := s.journal.next, minute := s.now, point := some d.point, reason := some .aborted } ∧
        t.journal.reserved = s.journal.reserved - 2 ∧ t.lot? d.lot = some (l.resolve d.point s.journal.next) ∧
        s.otherLots t d.lot ∧
        t.sampler = { s.sampler with state := .clearing, draw := none, command := none, pots := t.sampler.pots } ∧ noPot t ∧
        t = { s with lots := t.lots, sampler := t.sampler, journal := t.journal, alarms := t.alarms
                     link := { s.link with image := t.link.image }, port := t.port } ∧ s.notified t)

/-- The start-up scan finds the run of records from the base record on, reserves for its open samples and hands them to the sampler,
and the journal runs. A bad base record is written anew: with the lowest number among the good records, or 1 in a new store; that the
journal runs before that base record is stored is the model's choice (log 72). An open
sample whose record names no point is taken as one at STEEP-OUT (the model's choice, log 44) (R136). -/
def Obligations.StartUpScanFindsTheHeldRun : Prop :=
  ∀ (s : State) (n m : Nat), s.running = true → s.journal.state = .scanning → s.presence? = none → s.heldRun n m →
    (baseOfRecord? (Store.record s.store 0) = some n →
      ∃ t samples, exec .startUpScan s = .next t ∧
        t.journal = { s.journal with state := .running, oldest := n, next := m, reserved := samples.length } ∧
        t.sampler = { s.sampler with openSamples := some samples } ∧ s.openFound n m samples ∧
        t = { s with sampler := t.sampler, journal := t.journal, alarms := t.alarms, port := t.port } ∧ s.notified t) ∧
    (baseOfRecord? (Store.record s.store 0) = none → s.storeSound = true → s.lowestHeld n →
      ∃ t samples, exec .startUpScan s = .next t ∧
        t.journal.state = .running ∧ t.journal.oldest = n ∧ t.journal.next = m ∧ t.journal.reserved = samples.length ∧
        t.writePath = s.writePath ++ [.base n] ∧ t.journal.fault = s.journal.fault ∧
        t.sampler = { s.sampler with openSamples := some samples } ∧ s.openFound n m samples ∧
        t = { s with sampler := t.sampler, journal := t.journal, alarms := t.alarms, port := t.port } ∧ s.notified t)

/-- The rebuild: the last open sample of each position that is PRESENT fills its pot; every other open sample, its pot absent or taken by
a later one, has a COLLECTED entry numbered with the at-start-up flag, which uses its reservation; the other pots present are UNKNOWN,
the absent ones ABSENT; the last drawn position is that of the newest held SAMPLE entry, or 0; the command is NONE and the sampler
CLEARING. An open sample whose position is no pot's is taken as one whose pot is gone (the model's choice, log 44) (R118, R120, R129,
R137). -/
def Obligations.RebuildClaimsThePots : Prop :=
  ∀ (s : State) (xs : List OpenSample) (present : Vector Bool 24), s.running = true → s.sampler.state = .rebuilding →
    s.sampler.openSamples = some xs → s.presence? = some present → (∀ p, s.pot p = Pot.reset) →
    xs.Pairwise (fun a b => a.number < b.number) →
    ∃ (t : State) (ys : List OpenSample), exec .potRebuild s = .next t ∧
      t.sampler = { s.sampler with
        state := .clearing, openSamples := none, command := none, lastDrawn := t.sampler.lastDrawn, pots := t.sampler.pots } ∧
      (∀ x ∈ xs, State.claims present xs x → ∀ p : PotId, x.position = p.val + 1 →
        t.pot p = { state := .filled, sample := some { lot := x.lot, point := x.point, number := x.number } }) ∧
      ys.Nodup ∧ (∀ x, x ∈ ys ↔ x ∈ xs ∧ ¬ State.claims present xs x) ∧
      t.writePath = s.writePath ++ (ys.zipIdx s.journal.next).map (fun y => .entry (s.collectedAtStart y.1 y.2)) ∧
      t.journal.next = s.journal.next + ys.length ∧ t.journal.reserved = s.journal.reserved - ys.length ∧
      t.journal.oldest = s.journal.oldest ∧ t.journal.state = s.journal.state ∧ t.journal.fault = s.journal.fault ∧
      (s.journalSound →
        (∀ n e, s.journal.oldest ≤ n → n < s.journal.next → s.heldEntry? n = some e → e.kind = .sample →
          (∀ m x, n < m → m < s.journal.next → s.heldEntry? m = some x → x.kind ≠ .sample) → t.sampler.lastDrawn = e.pot) ∧
        ((∀ n e, s.journal.oldest ≤ n → n < s.journal.next → s.heldEntry? n = some e → e.kind ≠ .sample) →
          t.sampler.lastDrawn = 0)) ∧
      (t.stands .sampler .noPot = true ↔ s.sampler.pending ≠ []) ∧
      (∀ p : PotId, present[p] = true → (∀ x ∈ xs, x.position ≠ p.val + 1) →
        t.pot p = { state := .unknown, sample := none }) ∧
      (∀ p : PotId, present[p] = false → t.pot p = Pot.reset) ∧
      t = { s with sampler := t.sampler, journal := t.journal, alarms := t.alarms, port := t.port } ∧ s.notified t

/-- JOURNAL-MARK is refused with FULL below a room of 1, and otherwise numbers a MARK entry with its reference and the current plant
minute and replies with its number (R134). -/
def Obligations.JournalMarkNumbersAnEntry : Prop :=
  ∀ (s : State) (reference : BitVec 32), s.accepts = true → s.journal.state = .running →
    (s.roomOffered < 1 → ∃ t, exec (.journalMark reference) s = .next t ∧ t.journal = s.journal ∧
      s.replied t 0x4C#8 (.refused .full) ∧ t = { s with alarms := t.alarms, port := t.port }) ∧
    (1 ≤ s.roomOffered → ∃ t, exec (.journalMark reference) s = .next t ∧
      s.numbered t { Entry.blank .mark 0 with number := s.journal.next, minute := s.now, ref := reference.toNat } ∧
      t.journal.reserved = s.journal.reserved ∧ t = { s with journal := t.journal, alarms := t.alarms, port := t.port } ∧
      s.replied t 0x4C#8 (.done [.w s.journal.next]))

/-- The journal's other rows: a release moves the oldest held number and queues the base record, a format is taken only of an empty
journal, a stored front leaves the write path, a failed write raises STORE-FAULT, after which each plant minute begins the write of the
front again, a format's own erasing stored ends a STORE-FAULT, and a finished format leaves every entry place erased. That a failed write leaves its record place as it was is the model's
choice (log 25). A release of a number outside the stored held ones, or where there is none, is refused with RANGE, and one that pins a
FILLED pot's entry with CONFLICT; the journal's four requests are refused with BUSY unless it is RUNNING (R130, R131, R133, R135). -/
def Obligations.JournalRowsAct : Prop :=
  (∀ (s : State) (start count n : Nat) (reference : BitVec 32), s.accepts = true → s.journal.state ≠ .running →
    exec (.journalRead start count) s = .next (s.answer 0x4A#8 (.refused .busy)) ∧
    exec (.journalRelease n) s = .next (s.answer 0x4B#8 (.refused .busy)) ∧
    exec (.journalMark reference) s = .next (s.answer 0x4C#8 (.refused .busy)) ∧
    exec .journalFormat s = .next (s.answer 0x4D#8 (.refused .busy))) ∧
  (∀ (s : State) (n : Nat), s.accepts = true → s.journal.state = .running →
    ((n < s.journal.oldest ∨ ∀ newest, s.newestStored? = some newest → newest < n) →
      exec (.journalRelease n) s = .next (s.answer 0x4B#8 (.refused .range))) ∧
    (∀ newest, s.newestStored? = some newest → s.journal.oldest ≤ n → n ≤ newest → s.pinned n = true →
      exec (.journalRelease n) s = .next (s.answer 0x4B#8 (.refused .conflict)))) ∧
  (∀ (s : State) (n newest : Nat), s.accepts = true → s.journal.state = .running → s.newestStored? = some newest →
    s.journal.oldest ≤ n → n ≤ newest → s.pinned n = false →
    ∃ t, exec (.journalRelease n) s = .next t ∧ t.journal.oldest = n + 1 ∧ t.journal.next = s.journal.next ∧
      t.journal.reserved = s.journal.reserved ∧ t.journal.state = s.journal.state ∧ t.journal.fault = s.journal.fault ∧
      t.writePath = s.writePath ++ [.base (n + 1)] ∧
      (newest < s.journal.next → t.heldCount + (n + 1 - s.journal.oldest) = s.heldCount) ∧
      t = { s with journal := t.journal, alarms := t.alarms, port := t.port } ∧
      s.replied t 0x4B#8 (.done [.h ((n + 1 - s.journal.oldest : Nat) : Int), .w (n + 1), .h t.room])) ∧
  (∀ s : State, s.accepts = true → s.journal.state = .running →
    (s.heldCount = 0 → s.journal.reserved = 0 → s.filledPots = 0 →
      ∃ t, exec .journalFormat s = .next t ∧ t.journal.state = .formatting ∧ t.journal.next = s.journal.next ∧
        t.journal.oldest = s.journal.oldest ∧ t.journal.reserved = s.journal.reserved ∧ t.journal.fault = s.journal.fault ∧
        t.writePath = s.writePath ++ [.base s.journal.next] ∧ t.store = s.store ∧
        t = { s with journal := t.journal, port := t.port } ∧ s.replied t 0x4D#8 (.done [])) ∧
    (s.heldCount ≠ 0 ∨ s.journal.reserved ≠ 0 ∨ s.filledPots ≠ 0 →
      exec .journalFormat s = .next (s.answer 0x4D#8 (.refused .conflict)))) ∧
  (∀ (s : State) (i : WriteItem) (rest : List WriteItem), s.running = true → s.journal.writing = true →
    s.journal.queue = i :: rest →
    ∃ t, exec .entryStored s = .next t ∧ t.store = Store.writeRecord s.store i.place i.record ∧
      s.writePath = i :: t.writePath ∧ t.journal.fault = false ∧ t.journal.next = s.journal.next ∧
      t.journal.oldest = s.journal.oldest ∧ t.journal.reserved = s.journal.reserved ∧ t.journal.state = s.journal.state ∧
      (s.journal.fault = true → t.stands .journal .storeFault = false) ∧ (s.journal.fault = false → t.alarms = s.alarms) ∧
      t = { s with journal := t.journal, store := t.store, alarms := t.alarms, port := t.port } ∧ s.notified t) ∧
  (∀ s : State, s.running = true → s.journal.writing = true → s.journal.queue = [] →
    (s.journal.fault = false → exec .entryStored s = .next s) ∧
    (s.journal.fault = true → ∃ t, exec .entryStored s = .next t ∧ t.journal = { s.journal with fault := false } ∧
      t.stands .journal .storeFault = false ∧ t = { s with journal := t.journal, alarms := t.alarms, port := t.port } ∧
      s.notified t)) ∧
  (∀ s : State, s.running = true → s.journal.writing = true →
    ∃ t, exec .storeWriteFault s = .next t ∧ t.journal = { s.journal with writing := false, fault := true } ∧
      t.stands .journal .storeFault = true ∧ t = { s with journal := t.journal, alarms := t.alarms, port := t.port } ∧
      s.notified t) ∧
  (∀ s : State, s.running = true → s.storeSound = true → s.journal.state = .formatting → s.writePath = [] →
    s.journal.writing = true → s.journal.fault = false →
    ∃ t, exec .formatComplete s = .next t ∧ t.journal = { s.journal with state := .running, writing := false } ∧
      (∀ a, 32 ≤ a → Store.read t.store a = 0xFF#8) ∧ (∀ a, a < 32 → Store.read t.store a = Store.read s.store a) ∧
      t = { s with journal := t.journal, store := t.store, port := t.port } ∧ s.notified t) ∧
  (∀ s : State, (s.journal.fault = false → s.receive .storeRetry = s) ∧
    (s.journal.fault = true → s.receive .storeRetry = s.withJournal { s.journal with writing := true, writeCycles := 0 }))

/-- What is written to the store is read back: an entry under its number, the oldest held number from the base record, and every byte
outside the record place as before; a record whose last two bytes are not the CRC-16 of the thirty before them gives neither an entry nor
an oldest number (R170, R172). -/
def Obligations.StoredRecordsReadBack : Prop :=
  (∀ (m : List Host.Cell) (e : Entry), Store.wf m = true → e.number < 4294967296 → e.lot < 65536 → e.pot < 256 → e.w < 65536 →
    e.mass < 65536 → e.peatGiven < 65536 → e.shortfall < 65536 → e.ref < 4294967296 →
    storedEntry? (Store.writeRecord m (Entry.place e.number) e.record) e.number = some e) ∧
  (∀ (m : List Host.Cell) (n : Nat), Store.wf m = true → n < 4294967296 →
    baseOfRecord? (Store.record (Store.writeRecord m 0 (baseRecord n)) 0) = some n) ∧
  (∀ (m : List Host.Cell) (p : Nat) (bytes : List Byte), Store.wf m = true →
    Store.wf (Store.writeRecord m p bytes) = true ∧
    ∀ a, (a < 32 * p ∨ 32 * p + 32 ≤ a) → Store.read (Store.writeRecord m p bytes) a = Store.read m a) ∧
  (∀ bytes : List Byte, bytes.length = 32 → ofBytes (bytes.drop 30) ≠ (crc16 (bytes.take 30)).toNat →
    Entry.ofRecord? bytes = none ∧ baseOfRecord? bytes = none) ∧
  (∀ (m : List Host.Cell) (n : Nat) (bytes : List Byte), bytes = Store.record m (Entry.place n) →
    ofBytes (bytes.drop 30) ≠ (crc16 (bytes.take 30)).toNat → storedEntry? m n = none)

/-! ### The field link -/

/-- The link's requests: a roll call starts with an empty roster and no plan in force (what else it keeps is the model's choice, log
29) and is refused with STATE in LINK-RUN and ROLL-CALL; a binding moves a serial to one place, no serial frees the place and leaves its
station FOUND, and it is none for a unit no station serves (log 8); a binding is refused with UNKNOWN-PLACE for OUT and for a code that names
nothing, then with STATE unless the link is LINK-IDLE with no announcement waiting, then with CONFLICT for a serial that is not in the
roster or not of the place's kind; an accepted plan is held in position order (log 37) and waits to be announced, another is refused with
the reason of its first failing check; and a restart is refused with no plan in force and otherwise takes the link down with the burst still
out unjudged (log 32). The replies of BIND-STATION and SLOT-PLAN have no clamped flag (log 19), and a serial takes 2 bytes of its reply,
whose content is open above 65,535 (log 60): the model's choices (R150, R151, R153, R160, R171). -/
def Obligations.LinkRequestsAct : Prop :=
  ∀ s : State, s.accepts = true →
    (s.link.state = .idle ∨ s.link.state = .down →
      ∃ t, exec .rollCall s = .next t ∧
        t.link = { s.link with
          state := .rollCall, force := none, image := [], announcing := false, roster := [], duplicates := 0, probePosition := 1
          missed := 0, unanswered := 0, sent := .none, returned := false, startUpRoll := false } ∧
        t.stands .link .linkDown = false ∧ t.stands .link .shortChain = false ∧ t.stands .link .planMismatch = false ∧
        (∀ p, t.stands (.station p) .stationLost = false) ∧
        t = { s with link := t.link, alarms := t.alarms, port := t.port } ∧ s.replied t 0x58#8 (.done [])) ∧
    (s.link.state = .run ∨ s.link.state = .rollCall → exec .rollCall s = .next (s.answer 0x58#8 (.refused .state))) ∧
    (∀ (x : Site) (n : Serial), s.settings.inRange → s.link.state = .idle → s.link.announcing = false → s.mayBind x n = true →
      ∃ t, exec (.bindStation x.code (some n)) s = .next t ∧ t.serialOf? x = some n ∧
        (∀ y, y ≠ x → t.serialOf? y = if s.serialOf? y = some n then none else s.serialOf? y) ∧
        (∀ e ∈ t.link.roster, e.serial = n → e.state = .bound) ∧
        (∀ old, s.serialOf? x = some old → old ≠ n → ∀ e ∈ t.link.roster, e.serial = old → e.state = .found) ∧
        t.link.roster = s.link.roster.map (fun e => if e.serial = n then { e with state := .bound }
          else if s.serialOf? x = some e.serial then { e with state := .found } else e) ∧
        t = { s with settings := { s.settings with bindings := t.settings.bindings }
                     link := { s.link with roster := t.link.roster }, port := t.port } ∧
        s.replied t 0x59#8 (.done [.h n.toNat])) ∧
    (∀ x : Site, s.link.state = .idle → s.link.announcing = false →
      ∃ t, exec (.bindStation x.code none) s = .next t ∧ t.serialOf? x = none ∧
        (∀ y, y ≠ x → t.serialOf? y = s.serialOf? y) ∧
        t.link.roster = s.link.roster.map (fun e =>
          if s.serialOf? x = some e.serial then { e with state := .found } else e) ∧
        t = { s with settings := { s.settings with bindings := t.settings.bindings }
                     link := { s.link with roster := t.link.roster }, port := t.port } ∧
        s.replied t 0x59#8 (.done [.optN none])) ∧
    (∀ (x : Site) (n : Serial), s.link.state = .idle → s.link.announcing = false →
      (∀ e ∈ s.link.roster, e.serial = n → e.kind ≠ x.stationKind) →
      exec (.bindStation x.code (some n)) s = .next (s.answer 0x59#8 (.refused .conflict))) ∧
    (∀ (x : Site) (n : Option Serial), s.link.state ≠ .idle ∨ s.link.announcing = true →
      exec (.bindStation x.code n) s = .next (s.answer 0x59#8 (.refused .state))) ∧
    (∀ (code : Nat) (n : Option Serial), (∀ x : Site, x.code ≠ code) → (code < 43 ∨ 45 < code) →
      exec (.bindStation code n) s = .next (s.answer 0x59#8 (.refused .unknownPlace))) ∧
    (∀ code, 43 ≤ code → code ≤ 45 →
      (s.link.state = .idle → s.link.announcing = false →
        exec (.bindStation code none) s = .next (s.answer 0x59#8 (.done [.optN none])) ∧
        ∀ n, exec (.bindStation code (some n)) s = .next (s.answer 0x59#8 (.refused .conflict))) ∧
      (s.link.state ≠ .idle ∨ s.link.announcing = true → ∀ n,
        exec (.bindStation code n) s = .next (s.answer 0x59#8 (.refused .state)))) ∧
    (∀ (fields : List StationFields) (ts : List PlanStation), s.checkPlan fields = .ok ts →
      ∃ t, exec (.slotPlan fields) s = .next t ∧ t.settings.plan = some { stations := ts, e0 := s.planOffset ts } ∧
        t.link = { s.link with announcing := true } ∧ t.stands .link .planMismatch = false ∧
        ts.Pairwise (fun a b => a.position ≤ b.position) ∧ (Plan.mk ts 0).upBits ≤ 1280 ∧ (Plan.mk ts 0).downBits ≤ 1024 ∧
        imageSlots ts ≤ 64 ∧
        t = { s with settings := { s.settings with plan := t.settings.plan }, link := t.link, alarms := t.alarms, port := t.port } ∧
        s.replied t 0x5A#8 (.done [.h (Plan.mk ts 0).upBits, .h (Plan.mk ts 0).downBits])) ∧
    (∀ (fields : List StationFields) (r : Reason), s.checkPlan fields = .error r →
      exec (.slotPlan fields) s = .next (s.answer 0x5A#8 (.refused r))) ∧
    (s.link.force = none → exec .linkRestart s = .next (s.answer 0x5B#8 (.refused .state))) ∧
    (s.link.force.isSome = true →
      ∃ t, exec .linkRestart s = .next t ∧
        t.link = { s.link with state := .down, expected := s.e0?, retry := 0, missed := 0, returned := true } ∧
        t.stands .link .linkDown = true ∧ t = { s with link := t.link, alarms := t.alarms, port := t.port } ∧
        s.replied t 0x5B#8 (.done []))

/-- A cycle period counts, ages every reading that did not come in it, and sends the burst of the link's state: the next probe, an
announcement, the planned commands, or in LINK-DOWN nothing for 49 periods of 50; every command slot sent is even in its 17 bits. The planned commands are those of the plan's
stations in its order; of a station bound to one place or unit each command slot carries what the block of that place or unit last wrote (the
numbers are the model's choice, log 7). An
announcement gives each station its slots and, but for the last, the response offset of the next one plus 15 as its deadline. A burst that
has not returned by the end is judged before that: an unanswered probe, of which the third ends the roll call, or a missed turnaround, of
which the eighth takes the link down. A write under way counts the period and fails at 50. At which point of which period the tried cycle
is sent, and that a period whose silence takes the link down does not count (log 31), that a failed write leaves its record place as it was
(log 25), that the period in which a write begins is the first of its 50 (log 68), and that a format's erasing, a write under way with an
empty queue, is not timed (log 9), are the model's choices (R130, R148, R149, R151, R152, R154 to R157, R160). -/
def Obligations.CyclePeriodSendsTheBurst : Prop :=
  (∀ (s : State) (p : Plan), (s.runCommands p).map (·.position) = p.stations.map (·.position) ∧
    ∀ (i : Nat) (y : PlanStation) (x : Site), p.stations[i]? = some y → (∀ z, s.serialOf? z = some y.serial ↔ z = x) →
      ∃ c, (s.runCommands p)[i]? = some c ∧ c.commands.map (·.command) = y.downs ∧
        ∀ w ∈ c.commands, s.commanded x w.command w.value) ∧
  ∀ s : State, s.running = true →
    ∃ c t, exec .linkCyclePeriod s = .next t ∧ s.silenced c ∧ t.link.cycleCount = c.link.cycleCount + 1 ∧
      t.link.state = c.link.state ∧
      t.link.image = c.link.image.map ImageEntry.tick ∧
      (∀ (b : BoxId) (z : ZoneId), ((t.box b).zones[z]).value = ((c.box b).zones[z]).value ∧
        ((t.box b).zones[z]).age = if ((c.box b).zones[z]).fed then 0 else min 65535 (((c.box b).zones[z]).age + 1)) ∧
      t.boxes = c.boxes.map Box.tick ∧ (∀ b : BoxId, t.box b = { c.box b with zones := (t.box b).zones }) ∧
      (∀ (ts : List PlanStation) (i : Nat) (y : PlanStation), ts[i]? = some y →
        (c.announced ts)[i]? = some { position := y.position, serial := y.serial, ups := y.ups, downs := y.downs
                                      deadline := (ts[i + 1]?.bind fun z => c.rosterAt? z.position).map fun e => e.offset + 15 }) ∧
      t.link.returned = false ∧
      (c.link.state = .rollCall → t.link.sent = .probe c.link.probePosition (10 * c.link.probePosition)) ∧
      (∀ p, (c.link.state = .idle ∨ c.link.state = .run) → c.link.announcing = true → c.settings.plan = some p →
        t.link.sent = .announcement (c.announced p.stations)) ∧
      (∀ p, c.link.state = .run → c.link.announcing = false → c.link.force = some p →
        t.link.sent = .run (t.link.cycleCount.toNat % 4) (c.runCommands p)) ∧
      (s.link.state = .down → c.link.retry + 1 < 50 → t.link.sent = .none ∧ t.link.retry = c.link.retry + 1) ∧
      (∀ p, s.link.state = .down → 50 ≤ c.link.retry + 1 → c.link.force = some p →
        t.link.sent = .tried (c.announced p.stations) (t.link.cycleCount.toNat % 4) (some (c.runCommands p)) ∧
        t.link.retry = 0) ∧
      (∀ p, s.link.state = .down → 50 ≤ c.link.retry + 1 → c.link.force = none → c.settings.plan = some p →
        t.link.sent = .tried (c.announced p.stations) (t.link.cycleCount.toNat % 4) none ∧ t.link.retry = 0) ∧
      (c.link.state = .idle → c.link.announcing = false → t.link.sent = .none) ∧
      (s.link.state ≠ .down → c.link.state = .down → t.link.sent = .none) ∧
      (s.link.state ≠ .down → t.link.retry = c.link.retry) ∧
      t.link = { c.link with
        cycleCount := t.link.cycleCount, image := t.link.image, retry := t.link.retry, sent := t.link.sent, returned := false } ∧
      (c.journal.writing = false ∨ c.journal.queue = [] → t.journal = c.journal ∧ t.alarms = c.alarms) ∧
      (c.journal.writing = true → c.journal.queue ≠ [] →
        (c.journal.writeCycles + 1 < 50 →
          t.journal = { c.journal with writeCycles := c.journal.writeCycles + 1 } ∧ t.alarms = c.alarms) ∧
        (50 ≤ c.journal.writeCycles + 1 →
          t.journal = { c.journal with writing := false, fault := true } ∧ t.stands .journal .storeFault = true ∧
          ∀ x k, (x, k) ≠ (.journal, .storeFault) → t.stands x k = c.stands x k)) ∧
      (∀ p, ∀ y ∈ c.runCommands p, ∀ x ∈ y.commands, (ones x.value + if x.parity then 1 else 0) % 2 = 0) ∧
      t = { s with settings := c.settings, link := t.link, boxes := t.boxes, journal := t.journal, alarms := t.alarms
                   port := t.port } ∧ s.notified t

/-- The link's own events: an answer to a probe, good or bad, of a new serial or one in the roster already, and at position 30; the end of a
roll call; an accepted announcement, run cycle and tried cycle as the link's record takes them, the tried cycle that brings the first plan
into force among them; 8 misses, a tried cycle that is due, and a station silent for 50 cycles. A mark on the announcement counts as on a
run cycle (log 36), and an announcement whose plan was replaced brings nothing into force (log 33), though its mark counts, or that it has
none; at LINK-DOWN the burst still out is not judged (log 32): all three are the model's (R151, R154, R156 to R160). -/
def Obligations.LinkEventsAct : Prop :=
  ∀ s : State, s.running = true →
    (∀ (a : ProbeAnswer) (p : Nat) (e : Int), s.link.state = .rollCall → s.link.sent = .probe p e → s.link.returned = false →
      let known := ∃ x ∈ s.link.roster, x.serial = a.serial
      let entry : RosterEntry :=
        { position := p, kind := a.kind, serial := a.serial, offset := a.offset, failCount := 0
          state := if (s.siteOf? a.serial).isSome then .bound else .found }
      ((a.parityOk = false ∨ a.offset < e - 4 ∨ e + 15 < a.offset) → exec (.rollCallAnswer a) s = .next s) ∧
      (∀ x : Link, a.parityOk = true → e - 4 ≤ a.offset → a.offset ≤ e + 15 →
        (known → x = { s.link with duplicates := s.link.duplicates + 1, unanswered := 0, returned := true }) →
        (¬known → x = { s.link with roster := s.link.roster ++ [entry], unanswered := 0, returned := true }) →
        (p < 30 → exec (.rollCallAnswer a) s = .next (s.withLink { x with probePosition := p + 1 })) ∧
        (30 ≤ p → ∃ t, exec (.rollCallAnswer a) s = .next t ∧ s.rollEnded t x ∧
          t = { s with settings := t.settings, link := t.link, alarms := t.alarms, port := t.port } ∧ s.notified t))) ∧
    (s.link.state = .rollCall → 3 ≤ s.link.unanswered →
      ∃ t, exec .rollCallEnd s = .next t ∧ s.rollEnded t s.link ∧
        t = { s with settings := t.settings, link := t.link, alarms := t.alarms, port := t.port } ∧ s.notified t) ∧
    (∀ (g : Nat) (c : List StationCommands) (b : Burst) (order : List Reactor), s.link.sent = .run g c → s.link.returned = false →
      s.link.force.isSome = true → b.headerOk = true → s.inItsWindow none b.offset →
      ∃ t, exec (.runCycleAccepted b order) s = .next t ∧ t.link.missed = 0 ∧ t.link.returned = true ∧ t.link.shortPosition = none ∧
        t.stands .link .shortChain = false ∧ t.link.state = s.link.state ∧ t.link.force = s.link.force) ∧
    (∀ (x : List Announced) (g : Nat) (c : Option (List StationCommands)) (mark : Option Nat) (b : Burst) (order : List Reactor),
      s.link.sent = .tried x g c → s.link.returned = false → b.headerOk = true → s.inItsWindow mark b.offset →
      (s.link.force.isSome = true →
        ∃ t, exec (.triedCycleAccepted mark b order) s = .next t ∧ t.link.missed = 0 ∧ t.link.returned = true ∧
          t.link.shortPosition = mark ∧ t.stands .link .shortChain = mark.isSome ∧ t.stands .link .linkDown = false ∧
          t.link.state = .run ∧ t.link.force = s.link.force) ∧
      (∀ p, s.link.force = none → s.settings.plan = some p → x = s.announced p.stations →
        ∃ t, exec (.triedCycleAccepted mark b order) s = .next t ∧
          t.link = { s.link with
            state := .run, force := some p, announcing := false, expected := some p.e0, missed := 0, returned := true
            shortPosition := mark, image := imageFor s.link.image p, roster := t.link.roster } ∧
          (mark = none → t.link.roster = s.link.roster.map (RosterEntry.under p)) ∧
          (∀ m, mark = some m → ∀ y ∈ p.stations, m < y.position → ∀ e, t.rosterAt? y.position = some e → e.state = .lost) ∧
          t.stands .link .linkDown = false ∧ t.stands .link .shortChain = mark.isSome ∧
          t = { s with link := t.link, alarms := t.alarms, port := t.port } ∧ s.notified t)) ∧
    (∀ (x : List Announced) (p : Plan) (offset : Int), s.link.sent = .announcement x → s.link.returned = false →
      s.settings.plan = some p → x = s.announced p.stations → p.e0 - 4 ≤ offset → offset ≤ p.e0 + 15 →
      ∃ t, exec (.planIntoForce offset true) s = .next t ∧
        t.link = { s.link with
          state := .run, force := some p, announcing := false, expected := some p.e0, missed := 0, returned := true
          shortPosition := none, image := imageFor s.link.image p, roster := s.link.roster.map (RosterEntry.under p) } ∧
        t.stands .link .linkDown = false ∧ t.stands .link .shortChain = false ∧
        t = { s with link := t.link, alarms := t.alarms, port := t.port } ∧ s.notified t) ∧
    (∀ (x : List Announced) (b : Burst) (order : List Reactor) (m : Nat) (e : RosterEntry), s.link.sent = .announcement x →
      s.link.returned = false → b.headerOk = true → s.rosterAt? m = some e → e.offset - 4 ≤ b.offset → b.offset ≤ e.offset + 15 →
      ∃ t, exec (.shortChain m b order) s = .next t ∧ t.link.missed = 0 ∧ t.link.returned = true ∧
        t.link.shortPosition = some m ∧ t.stands .link .shortChain = true ∧
        (∀ p, s.settings.plan = some p → x = s.announced p.stations → t.link.force = some p ∧ t.link.state = .run) ∧
        (∀ p, s.settings.plan = some p → x ≠ s.announced p.stations →
          t.link.force = s.link.force ∧ t.link.state = s.link.state ∧ t.link.expected = s.link.expected) ∧
        t = { s with link := t.link, alarms := t.alarms, port := t.port } ∧ s.notified t) ∧
    (∀ (x : List Announced) (p : Plan) (offset : Int), s.link.sent = .announcement x → s.link.returned = false →
      s.settings.plan = some p → x ≠ s.announced p.stations → p.e0 - 4 ≤ offset → offset ≤ p.e0 + 15 →
      ∃ t, exec (.planIntoForce offset true) s = .next t ∧ t.link.missed = 0 ∧ t.link.returned = true ∧
        t.link.shortPosition = none ∧ t.stands .link .shortChain = false ∧ t.link.force = s.link.force ∧
        t.link.state = s.link.state ∧ t.link.image = s.link.image ∧ t.link.announcing = s.link.announcing ∧
        (s.link.force = none → t.link.roster = s.link.roster) ∧
        t = { s with link := t.link, alarms := t.alarms, port := t.port } ∧ s.notified t) ∧
    (8 ≤ s.link.missed → (s.link.state = .run ∨ (s.link.state = .idle ∧ s.link.announcing = true)) →
      ∃ t, exec .linkDown s = .next t ∧
        t.link = { s.link with state := .down, expected := s.e0?, retry := 0, missed := 0, returned := true } ∧
        t.stands .link .linkDown = true ∧ t = { s with link := t.link, alarms := t.alarms, port := t.port } ∧ s.notified t) ∧
    (∀ p, s.link.state = .down → 50 ≤ s.link.retry → s.link.force = some p →
      exec .triedCycle s = .next (s.withLink { s.link with
        retry := 0, returned := false
        sent := .tried (s.announced p.stations) (s.link.cycleCount.toNat % 4) (some (s.runCommands p)) })) ∧
    (∀ (p : Plan) (y : PlanStation) (e : RosterEntry) (i : Fin 30), s.link.force = some p → y ∈ p.stations → y.ups ≠ [] →
      y.position = i.val + 1 → s.rosterAt? y.position = some e → 50 ≤ e.failCount → e.state = .active →
      ∃ t, exec (.stationLost y.position) s = .next t ∧ t.stands (.station i) .stationLost = true ∧
        t.rosterAt? y.position = some { e with state := .lost } ∧
        (∀ q, q ≠ y.position → t.rosterAt? q = s.rosterAt? q) ∧
        t = { s with link := { s.link with roster := t.link.roster }, alarms := t.alarms, port := t.port } ∧ s.notified t)

/-- An unmarked burst in the turnaround window is accepted and its passed slots enter the image; any burst outside its window, or with a
bad header, is missed, even within 2 of E (the model's choice, log 14), leaves the image, and is the eighth miss that takes the link down
or one more; a marked one names the short chain and loses the stations below; a tried cycle accepted brings the link back. A slot of odd
parity gives no value, nor does a STATE slot whose number names none of the reading's values (the numbers are the model's choice, log 7); a
FULL slot gives its value and a PACKED one the middle of its interval,
a temperature clamped; each image entry takes what its slot gives and stands where it gives none, and so does each zone of the group that
its box station's echo names. An accepted cycle counts the fail counts and loses and regains stations, each with its alarm, where plan and
roster keep to the chain's positions, as every step leaves them (StepKeepsSettingsInRange). Then, with the burst so judged and all else as
before, every block that acts on readings as they arrive acts once on those of the cycle, in the order given as far as it goes, which no rule
sets (the model's choice, log 25): a steep, a kiln, the peat fire, the sampler and the Lot Table as the rows of the table for its readings
do one after another (the order within a block and that of the lots are the model's, logs 41 and 57), the turner as its position and its
motion say (R15, R23, R52, R70, R84, R105, R116, R149, R152, R155 to R159). -/
def Obligations.ReturningBurstsAreJudged : Prop :=
  (∀ (x : Slot) (v : BitVec 16) (parity : Bool), x.format = .full →
    ((ones v + parity.toNat) % 2 = 1 → decodeSlot? x (.full v parity) = none) ∧
    ((ones v + parity.toNat) % 2 = 0 →
      (x.reading.isValue = true → decodeSlot? x (.full v parity) =
        some (if x.reading.isTemperature then max (-400) (min 1500 v.toInt) else v.toInt)) ∧
      (∀ lo hi, x.reading.isValue = false →
        (lo, hi) = (match x.reading with
          | .position => (0, 8) | .echo => (0, 3) | .presenceLow => (0, 4095) | .presenceHigh => (0, 4095)
          | .fireState => (1, 2) | .motion => (1, 4) | .route => (1, 4) | .drawStatus => (1, 4) | _ => (1, 3)) →
        decodeSlot? x (.full v parity) = if lo ≤ v.toNat ∧ v.toNat ≤ hi then some (v.toNat : Int) else none))) ∧
  (∀ (x : Slot) (e : BitVec 3) (m : BitVec 9) (parity : Bool) (v : Int), x.format = .packed → x.reading.isValue = true →
    v = (if e.toNat = 0 then m.toInt else m.toInt * 2 ^ e.toNat + 2 ^ (e.toNat - 1)) →
    decodeSlot? x (.packed e m parity) = if (ones e + ones m + parity.toNat) % 2 = 1 then none
      else some (if x.reading.isTemperature then max (-400) (min 1500 v) else v)) ∧
  (∀ (p : Plan) (b : Burst) (mark : Option Nat) (old : List ImageEntry) (i j : Nat) (e : ImageEntry) (y : PlanStation) (x : Slot)
      (slots : List RawSlot), (p.stations.map (·.serial)).Nodup → (∀ z ∈ p.stations, (z.ups.map (·.reading)).Nodup) →
    old[i]? = some e → y ∈ p.stations → y.serial = e.serial → y.ups[j]? = some x → x.reading = e.reading →
    slots = (if mark.any fun m => decide (m < y.position) then []
      else ((b.stations.find? (·.position == y.position)).map (·.slots)).getD []) →
    (imageAfter (arrivalsOf p b mark) old)[i]? = some (match slots[j]?.bind (decodeSlot? x) with
      | some v => { e with value := some v, age := 0, fed := true }
      | none => e)) ∧
  (∀ (s : State) (i : Instr) (mark : Option Nat) (offset : Int) (headerOk : Bool), s.running = true →
    s.bringsBack i mark offset headerOk → (headerOk = false ∨ ¬s.inItsWindow mark offset) →
    ∃ t, exec i s = .next t ∧ s.turnaroundMissed t) ∧
  (∀ (s : State) (p : Plan) (b : Burst) (mark : Option Nat) (x : Site) (r : Reading),
    (∀ y, p.ordered → y ∈ p.stations → s.serialOf? x = some y.serial →
      s.came? (arrivalsOf p b mark) x r = State.gives b mark y r) ∧
    ((∀ y ∈ p.stations, s.serialOf? x ≠ some y.serial) → s.came? (arrivalsOf p b mark) x r = none)) ∧
  (∀ (s u : State) (p : Plan) (b : Burst) (mark : Option Nat),
    u.link.image = imageAfter (arrivalsOf p b mark) s.link.image →
    (∀ y ∈ p.stations, ∀ z ∈ y.ups, z.reading.isZone = false →
      ∃ e ∈ s.link.image, e.serial = y.serial ∧ e.reading = z.reading) → u.imageHas (arrivalsOf p b mark)) ∧
  (∀ (s : State) (a : Arrivals), s.running = true → s.imageHas a →
    (∀ r, r ≠ .turner → s.runs (s.react a r) (s.reactionRows a r)) ∧
    s.turnerReacted (s.react a .turner) ((s.came? a .turner .position).bind RailPos.ofCode?)
      ((s.came? a .turner .motion).bind Motion.ofCode?)) ∧
  (∀ (s : State) (a : Arrivals) (r : Reactor), s.running = true → s.imageHas a →
    (s.react a r).running = true ∧ (s.react a r).imageHas a) ∧
  ∀ (s : State) (p q : Plan) (b : Burst) (order : List Reactor), s.running = true → s.link.returned = false →
    s.link.force = some p → s.settings.plan = some q →
    let taken := fun (t : State) (mark : Option Nat) (x : LinkState) (down : Bool) =>
      s.cycleJudged t p b mark x down ∧ s.cycleTaken t p b mark x down order ∧
      t = { s with lots := t.lots, steeps := t.steeps, water := t.water, boxes := t.boxes, turner := t.turner, kilns := t.kilns
                   peat := t.peat, sampler := t.sampler, journal := t.journal, alarms := t.alarms, link := t.link, port := t.port
                   freeTaken := t.freeTaken } ∧ s.notified t
    (∀ g c, s.link.sent = .run g c →
      (b.headerOk = true → q.e0 - 4 ≤ b.offset → b.offset ≤ q.e0 + 15 →
        ∃ t, exec (.runCycleAccepted b order) s = .next t ∧ taken t none s.link.state (s.stands .link .linkDown)) ∧
      (∀ m e, b.headerOk = true → s.rosterAt? m = some e → e.offset - 4 ≤ b.offset → b.offset ≤ e.offset + 15 →
        ∃ t, exec (.shortChain m b order) s = .next t ∧ taken t (some m) s.link.state (s.stands .link .linkDown) ∧
          ∀ y ∈ p.stations, m < y.position → ∀ x, t.rosterAt? y.position = some x → x.state = .lost)) ∧
    (∀ a g c mark, s.link.sent = .tried a g c → b.headerOk = true → s.inItsWindow mark b.offset →
      ∃ t, exec (.triedCycleAccepted mark b order) s = .next t ∧ taken t mark .run false)

/-! ### The port's requests -/

/-- The port's own requests and the end of a save: the oldest notice leaves the queue and is replied with the payload of its kind, STATUS
reports its fields and clears both overflow flags (its four category counts without a count of them, the model's choice, log 62), a save
copies the settings and its end writes them as an image the next start loads, or fails, either with its SAVE-DONE notice; what a failed
save leaves comes with the command (the image's body bytes are open, log 46), and a RESTART waits for its reply and the write path (R165, R166, R168, R169). -/
def Obligations.PortRequestsAct : Prop :=
  (∀ s : State, s.accepts = true →
    (s.port.notices = [] → exec .nextNotice s = .next (s.answer 0x60#8 (.done [.b 0]))) ∧
    (∀ n rest kind payload, s.port.notices = n :: rest →
      (kind, payload) = (match n.body with
        | .alarmRaised x k m => (1, [.b x.code, .b k.code, .b k.category.code, .w m.toNat])
        | .alarmCleared x k => (2, [.b x.code, .b k.code])
        | .stateChange x a z => (3, [.b x.code, .b a, .b z])
        | .peatChange a z h g => (3, [.b 41, .b a.code, .b z.code, .b (h.elim 0 fun k => (Vessel.kiln k).code),
            .b (g.elim 0 fun k => (Vessel.kiln k).code)])
        | .transferDone l p d e => (4, [.h l, .b p.code, .b d.code, .w e])
        | .journalEntry m k l => (5, [.w m, .b k.code, .h l])
        | .linkState a z => (6, [.b a.code, .b z.code])
        | .saveDone ok => (7, [.b (if ok then 0 else 1)])) →
      exec .nextNotice s = .next ((s.withPort { s.port with notices := rest }).answer 0x60#8
        (.done (.b rest.length :: .h n.number.toNat :: .b kind :: .w n.minute.toNat :: payload)))) ∧
    (exec .status s = .next (((s.withAlarms { s.alarms with overflow := false }).withPort { s.port with
        noticeOverflow := false }).answer 0x62#8 (.done (List.flatten [
          [.flag s.clock.isSet, .flag s.port.defaultsInUse, .flag s.alarms.overflow, .flag s.port.noticeOverflow,
           .flag s.port.saving.isSome, .flag s.journal.fault, .h s.port.badFrames, .h s.port.discarded, .w s.clock.minutes.toNat,
           .b s.link.state.code, .b s.journal.state.code, .b s.sampler.state.code],
          (Category.all.map fun c => .h (s.alarms.entries.countP fun e => e.kind.category == c)),
          [.h (s.alarms.entries.countP fun e => e.state != .activeAck), .h s.port.notices.length,
           .b s.port.lastReset.code]])))) ∧
    (s.port.saving = none → exec .saveSettings s =
      .next ((s.withPort { s.port with saving := some s.settings }).answer 0x64#8 (.done []))) ∧
    (s.port.saving ≠ none → exec .saveSettings s = .next (s.answer 0x64#8 (.refused .busy))) ∧
    (s.port.saving = none → s.journal.fault = false →
      exec .restart s = .next ((s.withPort { s.port with restart := .replying }).answer 0x65#8 (.done []))) ∧
    (s.port.saving ≠ none ∨ s.journal.fault = true → exec .restart s = .next (s.answer 0x65#8 (.refused .busy)))) ∧
  (∀ (s : State) (copy : Settings) (left : ImageLeft), s.running = true → s.port.saving = some copy →
    exec (.saveDone .ok) s = .next (((s.withEeprom (Eeprom.saved copy)).withPort { s.port with
      saving := none, defaultsInUse := false }).notify (.saveDone true)) ∧
    (Eeprom.saved copy).header.toNat = 1536 ∧ (Eeprom.saved copy).load true = copy ∧
    ∃ t, exec (.saveDone (.failed left)) s = .next t ∧
      t = ((s.withEeprom t.eeprom).withPort { s.port with saving := none }).notify (.saveDone false) ∧
      (left = .untouched → t.eeprom = s.eeprom) ∧
      (∀ check, left = .bad check → t.eeprom = { Eeprom.saved copy with check := check } ∧
        (check ≠ (Eeprom.saved copy).check → t.eeprom.load true = Settings.default)) ∧
      (left = .written → t.eeprom = Eeprom.saved copy))
end

