-- ==== Sys2Proof/Laws/State.lean ====
section
/-! SUPPORT. What each named update of State does to each field: one lemma per field per update, each true by rfl. -/

namespace Sys2Proof.Machine.State

/-! ### withSettings -/

@[simp] theorem withSettings_powered (s : State) (x : Settings) : (s.withSettings x).powered = s.powered := rfl
@[simp] theorem withSettings_inReset (s : State) (x : Settings) : (s.withSettings x).inReset = s.inReset := rfl
@[simp] theorem withSettings_settings (s : State) (x : Settings) : (s.withSettings x).settings = x := rfl
@[simp] theorem withSettings_clock (s : State) (x : Settings) : (s.withSettings x).clock = s.clock := rfl
@[simp] theorem withSettings_lots (s : State) (x : Settings) : (s.withSettings x).lots = s.lots := rfl
@[simp] theorem withSettings_steeps (s : State) (x : Settings) : (s.withSettings x).steeps = s.steeps := rfl
@[simp] theorem withSettings_water (s : State) (x : Settings) : (s.withSettings x).water = s.water := rfl
@[simp] theorem withSettings_boxes (s : State) (x : Settings) : (s.withSettings x).boxes = s.boxes := rfl
@[simp] theorem withSettings_turner (s : State) (x : Settings) : (s.withSettings x).turner = s.turner := rfl
@[simp] theorem withSettings_kilns (s : State) (x : Settings) : (s.withSettings x).kilns = s.kilns := rfl
@[simp] theorem withSettings_peat (s : State) (x : Settings) : (s.withSettings x).peat = s.peat := rfl
@[simp] theorem withSettings_sampler (s : State) (x : Settings) : (s.withSettings x).sampler = s.sampler := rfl
@[simp] theorem withSettings_journal (s : State) (x : Settings) : (s.withSettings x).journal = s.journal := rfl
@[simp] theorem withSettings_store (s : State) (x : Settings) : (s.withSettings x).store = s.store := rfl
@[simp] theorem withSettings_alarms (s : State) (x : Settings) : (s.withSettings x).alarms = s.alarms := rfl
@[simp] theorem withSettings_link (s : State) (x : Settings) : (s.withSettings x).link = s.link := rfl
@[simp] theorem withSettings_port (s : State) (x : Settings) : (s.withSettings x).port = s.port := rfl
@[simp] theorem withSettings_eeprom (s : State) (x : Settings) : (s.withSettings x).eeprom = s.eeprom := rfl
@[simp] theorem withSettings_freeTaken (s : State) (x : Settings) : (s.withSettings x).freeTaken = s.freeTaken := rfl
@[simp] theorem withSettings_pending (s : State) (x : Settings) : (s.withSettings x).pending = s.pending := rfl

/-! ### withClock -/

@[simp] theorem withClock_powered (s : State) (x : Clock) : (s.withClock x).powered = s.powered := rfl
@[simp] theorem withClock_inReset (s : State) (x : Clock) : (s.withClock x).inReset = s.inReset := rfl
@[simp] theorem withClock_settings (s : State) (x : Clock) : (s.withClock x).settings = s.settings := rfl
@[simp] theorem withClock_clock (s : State) (x : Clock) : (s.withClock x).clock = x := rfl
@[simp] theorem withClock_lots (s : State) (x : Clock) : (s.withClock x).lots = s.lots := rfl
@[simp] theorem withClock_steeps (s : State) (x : Clock) : (s.withClock x).steeps = s.steeps := rfl
@[simp] theorem withClock_water (s : State) (x : Clock) : (s.withClock x).water = s.water := rfl
@[simp] theorem withClock_boxes (s : State) (x : Clock) : (s.withClock x).boxes = s.boxes := rfl
@[simp] theorem withClock_turner (s : State) (x : Clock) : (s.withClock x).turner = s.turner := rfl
@[simp] theorem withClock_kilns (s : State) (x : Clock) : (s.withClock x).kilns = s.kilns := rfl
@[simp] theorem withClock_peat (s : State) (x : Clock) : (s.withClock x).peat = s.peat := rfl
@[simp] theorem withClock_sampler (s : State) (x : Clock) : (s.withClock x).sampler = s.sampler := rfl
@[simp] theorem withClock_journal (s : State) (x : Clock) : (s.withClock x).journal = s.journal := rfl
@[simp] theorem withClock_store (s : State) (x : Clock) : (s.withClock x).store = s.store := rfl
@[simp] theorem withClock_alarms (s : State) (x : Clock) : (s.withClock x).alarms = s.alarms := rfl
@[simp] theorem withClock_link (s : State) (x : Clock) : (s.withClock x).link = s.link := rfl
@[simp] theorem withClock_port (s : State) (x : Clock) : (s.withClock x).port = s.port := rfl
@[simp] theorem withClock_eeprom (s : State) (x : Clock) : (s.withClock x).eeprom = s.eeprom := rfl
@[simp] theorem withClock_freeTaken (s : State) (x : Clock) : (s.withClock x).freeTaken = s.freeTaken := rfl
@[simp] theorem withClock_pending (s : State) (x : Clock) : (s.withClock x).pending = s.pending := rfl

/-! ### withLots -/

@[simp] theorem withLots_powered (s : State) (x : List Lot) : (s.withLots x).powered = s.powered := rfl
@[simp] theorem withLots_inReset (s : State) (x : List Lot) : (s.withLots x).inReset = s.inReset := rfl
@[simp] theorem withLots_settings (s : State) (x : List Lot) : (s.withLots x).settings = s.settings := rfl
@[simp] theorem withLots_clock (s : State) (x : List Lot) : (s.withLots x).clock = s.clock := rfl
@[simp] theorem withLots_lots (s : State) (x : List Lot) : (s.withLots x).lots = x := rfl
@[simp] theorem withLots_steeps (s : State) (x : List Lot) : (s.withLots x).steeps = s.steeps := rfl
@[simp] theorem withLots_water (s : State) (x : List Lot) : (s.withLots x).water = s.water := rfl
@[simp] theorem withLots_boxes (s : State) (x : List Lot) : (s.withLots x).boxes = s.boxes := rfl
@[simp] theorem withLots_turner (s : State) (x : List Lot) : (s.withLots x).turner = s.turner := rfl
@[simp] theorem withLots_kilns (s : State) (x : List Lot) : (s.withLots x).kilns = s.kilns := rfl
@[simp] theorem withLots_peat (s : State) (x : List Lot) : (s.withLots x).peat = s.peat := rfl
@[simp] theorem withLots_sampler (s : State) (x : List Lot) : (s.withLots x).sampler = s.sampler := rfl
@[simp] theorem withLots_journal (s : State) (x : List Lot) : (s.withLots x).journal = s.journal := rfl
@[simp] theorem withLots_store (s : State) (x : List Lot) : (s.withLots x).store = s.store := rfl
@[simp] theorem withLots_alarms (s : State) (x : List Lot) : (s.withLots x).alarms = s.alarms := rfl
@[simp] theorem withLots_link (s : State) (x : List Lot) : (s.withLots x).link = s.link := rfl
@[simp] theorem withLots_port (s : State) (x : List Lot) : (s.withLots x).port = s.port := rfl
@[simp] theorem withLots_eeprom (s : State) (x : List Lot) : (s.withLots x).eeprom = s.eeprom := rfl
@[simp] theorem withLots_freeTaken (s : State) (x : List Lot) : (s.withLots x).freeTaken = s.freeTaken := rfl
@[simp] theorem withLots_pending (s : State) (x : List Lot) : (s.withLots x).pending = s.pending := rfl

/-! ### withWater -/

@[simp] theorem withWater_powered (s : State) (x : Water) : (s.withWater x).powered = s.powered := rfl
@[simp] theorem withWater_inReset (s : State) (x : Water) : (s.withWater x).inReset = s.inReset := rfl
@[simp] theorem withWater_settings (s : State) (x : Water) : (s.withWater x).settings = s.settings := rfl
@[simp] theorem withWater_clock (s : State) (x : Water) : (s.withWater x).clock = s.clock := rfl
@[simp] theorem withWater_lots (s : State) (x : Water) : (s.withWater x).lots = s.lots := rfl
@[simp] theorem withWater_steeps (s : State) (x : Water) : (s.withWater x).steeps = s.steeps := rfl
@[simp] theorem withWater_water (s : State) (x : Water) : (s.withWater x).water = x := rfl
@[simp] theorem withWater_boxes (s : State) (x : Water) : (s.withWater x).boxes = s.boxes := rfl
@[simp] theorem withWater_turner (s : State) (x : Water) : (s.withWater x).turner = s.turner := rfl
@[simp] theorem withWater_kilns (s : State) (x : Water) : (s.withWater x).kilns = s.kilns := rfl
@[simp] theorem withWater_peat (s : State) (x : Water) : (s.withWater x).peat = s.peat := rfl
@[simp] theorem withWater_sampler (s : State) (x : Water) : (s.withWater x).sampler = s.sampler := rfl
@[simp] theorem withWater_journal (s : State) (x : Water) : (s.withWater x).journal = s.journal := rfl
@[simp] theorem withWater_store (s : State) (x : Water) : (s.withWater x).store = s.store := rfl
@[simp] theorem withWater_alarms (s : State) (x : Water) : (s.withWater x).alarms = s.alarms := rfl
@[simp] theorem withWater_link (s : State) (x : Water) : (s.withWater x).link = s.link := rfl
@[simp] theorem withWater_port (s : State) (x : Water) : (s.withWater x).port = s.port := rfl
@[simp] theorem withWater_eeprom (s : State) (x : Water) : (s.withWater x).eeprom = s.eeprom := rfl
@[simp] theorem withWater_freeTaken (s : State) (x : Water) : (s.withWater x).freeTaken = s.freeTaken := rfl
@[simp] theorem withWater_pending (s : State) (x : Water) : (s.withWater x).pending = s.pending := rfl

/-! ### withTurner -/

@[simp] theorem withTurner_powered (s : State) (x : Turner) : (s.withTurner x).powered = s.powered := rfl
@[simp] theorem withTurner_inReset (s : State) (x : Turner) : (s.withTurner x).inReset = s.inReset := rfl
@[simp] theorem withTurner_settings (s : State) (x : Turner) : (s.withTurner x).settings = s.settings := rfl
@[simp] theorem withTurner_clock (s : State) (x : Turner) : (s.withTurner x).clock = s.clock := rfl
@[simp] theorem withTurner_lots (s : State) (x : Turner) : (s.withTurner x).lots = s.lots := rfl
@[simp] theorem withTurner_steeps (s : State) (x : Turner) : (s.withTurner x).steeps = s.steeps := rfl
@[simp] theorem withTurner_water (s : State) (x : Turner) : (s.withTurner x).water = s.water := rfl
@[simp] theorem withTurner_boxes (s : State) (x : Turner) : (s.withTurner x).boxes = s.boxes := rfl
@[simp] theorem withTurner_turner (s : State) (x : Turner) : (s.withTurner x).turner = x := rfl
@[simp] theorem withTurner_kilns (s : State) (x : Turner) : (s.withTurner x).kilns = s.kilns := rfl
@[simp] theorem withTurner_peat (s : State) (x : Turner) : (s.withTurner x).peat = s.peat := rfl
@[simp] theorem withTurner_sampler (s : State) (x : Turner) : (s.withTurner x).sampler = s.sampler := rfl
@[simp] theorem withTurner_journal (s : State) (x : Turner) : (s.withTurner x).journal = s.journal := rfl
@[simp] theorem withTurner_store (s : State) (x : Turner) : (s.withTurner x).store = s.store := rfl
@[simp] theorem withTurner_alarms (s : State) (x : Turner) : (s.withTurner x).alarms = s.alarms := rfl
@[simp] theorem withTurner_link (s : State) (x : Turner) : (s.withTurner x).link = s.link := rfl
@[simp] theorem withTurner_port (s : State) (x : Turner) : (s.withTurner x).port = s.port := rfl
@[simp] theorem withTurner_eeprom (s : State) (x : Turner) : (s.withTurner x).eeprom = s.eeprom := rfl
@[simp] theorem withTurner_freeTaken (s : State) (x : Turner) : (s.withTurner x).freeTaken = s.freeTaken := rfl
@[simp] theorem withTurner_pending (s : State) (x : Turner) : (s.withTurner x).pending = s.pending := rfl

/-! ### withPeat -/

@[simp] theorem withPeat_powered (s : State) (x : Peat) : (s.withPeat x).powered = s.powered := rfl
@[simp] theorem withPeat_inReset (s : State) (x : Peat) : (s.withPeat x).inReset = s.inReset := rfl
@[simp] theorem withPeat_settings (s : State) (x : Peat) : (s.withPeat x).settings = s.settings := rfl
@[simp] theorem withPeat_clock (s : State) (x : Peat) : (s.withPeat x).clock = s.clock := rfl
@[simp] theorem withPeat_lots (s : State) (x : Peat) : (s.withPeat x).lots = s.lots := rfl
@[simp] theorem withPeat_steeps (s : State) (x : Peat) : (s.withPeat x).steeps = s.steeps := rfl
@[simp] theorem withPeat_water (s : State) (x : Peat) : (s.withPeat x).water = s.water := rfl
@[simp] theorem withPeat_boxes (s : State) (x : Peat) : (s.withPeat x).boxes = s.boxes := rfl
@[simp] theorem withPeat_turner (s : State) (x : Peat) : (s.withPeat x).turner = s.turner := rfl
@[simp] theorem withPeat_kilns (s : State) (x : Peat) : (s.withPeat x).kilns = s.kilns := rfl
@[simp] theorem withPeat_peat (s : State) (x : Peat) : (s.withPeat x).peat = x := rfl
@[simp] theorem withPeat_sampler (s : State) (x : Peat) : (s.withPeat x).sampler = s.sampler := rfl
@[simp] theorem withPeat_journal (s : State) (x : Peat) : (s.withPeat x).journal = s.journal := rfl
@[simp] theorem withPeat_store (s : State) (x : Peat) : (s.withPeat x).store = s.store := rfl
@[simp] theorem withPeat_alarms (s : State) (x : Peat) : (s.withPeat x).alarms = s.alarms := rfl
@[simp] theorem withPeat_link (s : State) (x : Peat) : (s.withPeat x).link = s.link := rfl
@[simp] theorem withPeat_port (s : State) (x : Peat) : (s.withPeat x).port = s.port := rfl
@[simp] theorem withPeat_eeprom (s : State) (x : Peat) : (s.withPeat x).eeprom = s.eeprom := rfl
@[simp] theorem withPeat_freeTaken (s : State) (x : Peat) : (s.withPeat x).freeTaken = s.freeTaken := rfl
@[simp] theorem withPeat_pending (s : State) (x : Peat) : (s.withPeat x).pending = s.pending := rfl

/-! ### withSampler -/

@[simp] theorem withSampler_powered (s : State) (x : Sampler) : (s.withSampler x).powered = s.powered := rfl
@[simp] theorem withSampler_inReset (s : State) (x : Sampler) : (s.withSampler x).inReset = s.inReset := rfl
@[simp] theorem withSampler_settings (s : State) (x : Sampler) : (s.withSampler x).settings = s.settings := rfl
@[simp] theorem withSampler_clock (s : State) (x : Sampler) : (s.withSampler x).clock = s.clock := rfl
@[simp] theorem withSampler_lots (s : State) (x : Sampler) : (s.withSampler x).lots = s.lots := rfl
@[simp] theorem withSampler_steeps (s : State) (x : Sampler) : (s.withSampler x).steeps = s.steeps := rfl
@[simp] theorem withSampler_water (s : State) (x : Sampler) : (s.withSampler x).water = s.water := rfl
@[simp] theorem withSampler_boxes (s : State) (x : Sampler) : (s.withSampler x).boxes = s.boxes := rfl
@[simp] theorem withSampler_turner (s : State) (x : Sampler) : (s.withSampler x).turner = s.turner := rfl
@[simp] theorem withSampler_kilns (s : State) (x : Sampler) : (s.withSampler x).kilns = s.kilns := rfl
@[simp] theorem withSampler_peat (s : State) (x : Sampler) : (s.withSampler x).peat = s.peat := rfl
@[simp] theorem withSampler_sampler (s : State) (x : Sampler) : (s.withSampler x).sampler = x := rfl
@[simp] theorem withSampler_journal (s : State) (x : Sampler) : (s.withSampler x).journal = s.journal := rfl
@[simp] theorem withSampler_store (s : State) (x : Sampler) : (s.withSampler x).store = s.store := rfl
@[simp] theorem withSampler_alarms (s : State) (x : Sampler) : (s.withSampler x).alarms = s.alarms := rfl
@[simp] theorem withSampler_link (s : State) (x : Sampler) : (s.withSampler x).link = s.link := rfl
@[simp] theorem withSampler_port (s : State) (x : Sampler) : (s.withSampler x).port = s.port := rfl
@[simp] theorem withSampler_eeprom (s : State) (x : Sampler) : (s.withSampler x).eeprom = s.eeprom := rfl
@[simp] theorem withSampler_freeTaken (s : State) (x : Sampler) : (s.withSampler x).freeTaken = s.freeTaken := rfl
@[simp] theorem withSampler_pending (s : State) (x : Sampler) : (s.withSampler x).pending = s.pending := rfl

/-! ### withJournal -/

@[simp] theorem withJournal_powered (s : State) (x : Journal) : (s.withJournal x).powered = s.powered := rfl
@[simp] theorem withJournal_inReset (s : State) (x : Journal) : (s.withJournal x).inReset = s.inReset := rfl
@[simp] theorem withJournal_settings (s : State) (x : Journal) : (s.withJournal x).settings = s.settings := rfl
@[simp] theorem withJournal_clock (s : State) (x : Journal) : (s.withJournal x).clock = s.clock := rfl
@[simp] theorem withJournal_lots (s : State) (x : Journal) : (s.withJournal x).lots = s.lots := rfl
@[simp] theorem withJournal_steeps (s : State) (x : Journal) : (s.withJournal x).steeps = s.steeps := rfl
@[simp] theorem withJournal_water (s : State) (x : Journal) : (s.withJournal x).water = s.water := rfl
@[simp] theorem withJournal_boxes (s : State) (x : Journal) : (s.withJournal x).boxes = s.boxes := rfl
@[simp] theorem withJournal_turner (s : State) (x : Journal) : (s.withJournal x).turner = s.turner := rfl
@[simp] theorem withJournal_kilns (s : State) (x : Journal) : (s.withJournal x).kilns = s.kilns := rfl
@[simp] theorem withJournal_peat (s : State) (x : Journal) : (s.withJournal x).peat = s.peat := rfl
@[simp] theorem withJournal_sampler (s : State) (x : Journal) : (s.withJournal x).sampler = s.sampler := rfl
@[simp] theorem withJournal_journal (s : State) (x : Journal) : (s.withJournal x).journal = x := rfl
@[simp] theorem withJournal_store (s : State) (x : Journal) : (s.withJournal x).store = s.store := rfl
@[simp] theorem withJournal_alarms (s : State) (x : Journal) : (s.withJournal x).alarms = s.alarms := rfl
@[simp] theorem withJournal_link (s : State) (x : Journal) : (s.withJournal x).link = s.link := rfl
@[simp] theorem withJournal_port (s : State) (x : Journal) : (s.withJournal x).port = s.port := rfl
@[simp] theorem withJournal_eeprom (s : State) (x : Journal) : (s.withJournal x).eeprom = s.eeprom := rfl
@[simp] theorem withJournal_freeTaken (s : State) (x : Journal) : (s.withJournal x).freeTaken = s.freeTaken := rfl
@[simp] theorem withJournal_pending (s : State) (x : Journal) : (s.withJournal x).pending = s.pending := rfl

/-! ### withStore -/

@[simp] theorem withStore_powered (s : State) (x : List Host.Cell) : (s.withStore x).powered = s.powered := rfl
@[simp] theorem withStore_inReset (s : State) (x : List Host.Cell) : (s.withStore x).inReset = s.inReset := rfl
@[simp] theorem withStore_settings (s : State) (x : List Host.Cell) : (s.withStore x).settings = s.settings := rfl
@[simp] theorem withStore_clock (s : State) (x : List Host.Cell) : (s.withStore x).clock = s.clock := rfl
@[simp] theorem withStore_lots (s : State) (x : List Host.Cell) : (s.withStore x).lots = s.lots := rfl
@[simp] theorem withStore_steeps (s : State) (x : List Host.Cell) : (s.withStore x).steeps = s.steeps := rfl
@[simp] theorem withStore_water (s : State) (x : List Host.Cell) : (s.withStore x).water = s.water := rfl
@[simp] theorem withStore_boxes (s : State) (x : List Host.Cell) : (s.withStore x).boxes = s.boxes := rfl
@[simp] theorem withStore_turner (s : State) (x : List Host.Cell) : (s.withStore x).turner = s.turner := rfl
@[simp] theorem withStore_kilns (s : State) (x : List Host.Cell) : (s.withStore x).kilns = s.kilns := rfl
@[simp] theorem withStore_peat (s : State) (x : List Host.Cell) : (s.withStore x).peat = s.peat := rfl
@[simp] theorem withStore_sampler (s : State) (x : List Host.Cell) : (s.withStore x).sampler = s.sampler := rfl
@[simp] theorem withStore_journal (s : State) (x : List Host.Cell) : (s.withStore x).journal = s.journal := rfl
@[simp] theorem withStore_store (s : State) (x : List Host.Cell) : (s.withStore x).store = x := rfl
@[simp] theorem withStore_alarms (s : State) (x : List Host.Cell) : (s.withStore x).alarms = s.alarms := rfl
@[simp] theorem withStore_link (s : State) (x : List Host.Cell) : (s.withStore x).link = s.link := rfl
@[simp] theorem withStore_port (s : State) (x : List Host.Cell) : (s.withStore x).port = s.port := rfl
@[simp] theorem withStore_eeprom (s : State) (x : List Host.Cell) : (s.withStore x).eeprom = s.eeprom := rfl
@[simp] theorem withStore_freeTaken (s : State) (x : List Host.Cell) : (s.withStore x).freeTaken = s.freeTaken := rfl
@[simp] theorem withStore_pending (s : State) (x : List Host.Cell) : (s.withStore x).pending = s.pending := rfl

/-! ### withAlarms -/

@[simp] theorem withAlarms_powered (s : State) (x : Alarms) : (s.withAlarms x).powered = s.powered := rfl
@[simp] theorem withAlarms_inReset (s : State) (x : Alarms) : (s.withAlarms x).inReset = s.inReset := rfl
@[simp] theorem withAlarms_settings (s : State) (x : Alarms) : (s.withAlarms x).settings = s.settings := rfl
@[simp] theorem withAlarms_clock (s : State) (x : Alarms) : (s.withAlarms x).clock = s.clock := rfl
@[simp] theorem withAlarms_lots (s : State) (x : Alarms) : (s.withAlarms x).lots = s.lots := rfl
@[simp] theorem withAlarms_steeps (s : State) (x : Alarms) : (s.withAlarms x).steeps = s.steeps := rfl
@[simp] theorem withAlarms_water (s : State) (x : Alarms) : (s.withAlarms x).water = s.water := rfl
@[simp] theorem withAlarms_boxes (s : State) (x : Alarms) : (s.withAlarms x).boxes = s.boxes := rfl
@[simp] theorem withAlarms_turner (s : State) (x : Alarms) : (s.withAlarms x).turner = s.turner := rfl
@[simp] theorem withAlarms_kilns (s : State) (x : Alarms) : (s.withAlarms x).kilns = s.kilns := rfl
@[simp] theorem withAlarms_peat (s : State) (x : Alarms) : (s.withAlarms x).peat = s.peat := rfl
@[simp] theorem withAlarms_sampler (s : State) (x : Alarms) : (s.withAlarms x).sampler = s.sampler := rfl
@[simp] theorem withAlarms_journal (s : State) (x : Alarms) : (s.withAlarms x).journal = s.journal := rfl
@[simp] theorem withAlarms_store (s : State) (x : Alarms) : (s.withAlarms x).store = s.store := rfl
@[simp] theorem withAlarms_alarms (s : State) (x : Alarms) : (s.withAlarms x).alarms = x := rfl
@[simp] theorem withAlarms_link (s : State) (x : Alarms) : (s.withAlarms x).link = s.link := rfl
@[simp] theorem withAlarms_port (s : State) (x : Alarms) : (s.withAlarms x).port = s.port := rfl
@[simp] theorem withAlarms_eeprom (s : State) (x : Alarms) : (s.withAlarms x).eeprom = s.eeprom := rfl
@[simp] theorem withAlarms_freeTaken (s : State) (x : Alarms) : (s.withAlarms x).freeTaken = s.freeTaken := rfl
@[simp] theorem withAlarms_pending (s : State) (x : Alarms) : (s.withAlarms x).pending = s.pending := rfl

/-! ### withLink -/

@[simp] theorem withLink_powered (s : State) (x : Link) : (s.withLink x).powered = s.powered := rfl
@[simp] theorem withLink_inReset (s : State) (x : Link) : (s.withLink x).inReset = s.inReset := rfl
@[simp] theorem withLink_settings (s : State) (x : Link) : (s.withLink x).settings = s.settings := rfl
@[simp] theorem withLink_clock (s : State) (x : Link) : (s.withLink x).clock = s.clock := rfl
@[simp] theorem withLink_lots (s : State) (x : Link) : (s.withLink x).lots = s.lots := rfl
@[simp] theorem withLink_steeps (s : State) (x : Link) : (s.withLink x).steeps = s.steeps := rfl
@[simp] theorem withLink_water (s : State) (x : Link) : (s.withLink x).water = s.water := rfl
@[simp] theorem withLink_boxes (s : State) (x : Link) : (s.withLink x).boxes = s.boxes := rfl
@[simp] theorem withLink_turner (s : State) (x : Link) : (s.withLink x).turner = s.turner := rfl
@[simp] theorem withLink_kilns (s : State) (x : Link) : (s.withLink x).kilns = s.kilns := rfl
@[simp] theorem withLink_peat (s : State) (x : Link) : (s.withLink x).peat = s.peat := rfl
@[simp] theorem withLink_sampler (s : State) (x : Link) : (s.withLink x).sampler = s.sampler := rfl
@[simp] theorem withLink_journal (s : State) (x : Link) : (s.withLink x).journal = s.journal := rfl
@[simp] theorem withLink_store (s : State) (x : Link) : (s.withLink x).store = s.store := rfl
@[simp] theorem withLink_alarms (s : State) (x : Link) : (s.withLink x).alarms = s.alarms := rfl
@[simp] theorem withLink_link (s : State) (x : Link) : (s.withLink x).link = x := rfl
@[simp] theorem withLink_port (s : State) (x : Link) : (s.withLink x).port = s.port := rfl
@[simp] theorem withLink_eeprom (s : State) (x : Link) : (s.withLink x).eeprom = s.eeprom := rfl
@[simp] theorem withLink_freeTaken (s : State) (x : Link) : (s.withLink x).freeTaken = s.freeTaken := rfl
@[simp] theorem withLink_pending (s : State) (x : Link) : (s.withLink x).pending = s.pending := rfl

/-! ### withPort -/

@[simp] theorem withPort_powered (s : State) (x : Port) : (s.withPort x).powered = s.powered := rfl
@[simp] theorem withPort_inReset (s : State) (x : Port) : (s.withPort x).inReset = s.inReset := rfl
@[simp] theorem withPort_settings (s : State) (x : Port) : (s.withPort x).settings = s.settings := rfl
@[simp] theorem withPort_clock (s : State) (x : Port) : (s.withPort x).clock = s.clock := rfl
@[simp] theorem withPort_lots (s : State) (x : Port) : (s.withPort x).lots = s.lots := rfl
@[simp] theorem withPort_steeps (s : State) (x : Port) : (s.withPort x).steeps = s.steeps := rfl
@[simp] theorem withPort_water (s : State) (x : Port) : (s.withPort x).water = s.water := rfl
@[simp] theorem withPort_boxes (s : State) (x : Port) : (s.withPort x).boxes = s.boxes := rfl
@[simp] theorem withPort_turner (s : State) (x : Port) : (s.withPort x).turner = s.turner := rfl
@[simp] theorem withPort_kilns (s : State) (x : Port) : (s.withPort x).kilns = s.kilns := rfl
@[simp] theorem withPort_peat (s : State) (x : Port) : (s.withPort x).peat = s.peat := rfl
@[simp] theorem withPort_sampler (s : State) (x : Port) : (s.withPort x).sampler = s.sampler := rfl
@[simp] theorem withPort_journal (s : State) (x : Port) : (s.withPort x).journal = s.journal := rfl
@[simp] theorem withPort_store (s : State) (x : Port) : (s.withPort x).store = s.store := rfl
@[simp] theorem withPort_alarms (s : State) (x : Port) : (s.withPort x).alarms = s.alarms := rfl
@[simp] theorem withPort_link (s : State) (x : Port) : (s.withPort x).link = s.link := rfl
@[simp] theorem withPort_port (s : State) (x : Port) : (s.withPort x).port = x := rfl
@[simp] theorem withPort_eeprom (s : State) (x : Port) : (s.withPort x).eeprom = s.eeprom := rfl
@[simp] theorem withPort_freeTaken (s : State) (x : Port) : (s.withPort x).freeTaken = s.freeTaken := rfl
@[simp] theorem withPort_pending (s : State) (x : Port) : (s.withPort x).pending = s.pending := rfl

/-! ### withEeprom -/

@[simp] theorem withEeprom_powered (s : State) (x : Eeprom) : (s.withEeprom x).powered = s.powered := rfl
@[simp] theorem withEeprom_inReset (s : State) (x : Eeprom) : (s.withEeprom x).inReset = s.inReset := rfl
@[simp] theorem withEeprom_settings (s : State) (x : Eeprom) : (s.withEeprom x).settings = s.settings := rfl
@[simp] theorem withEeprom_clock (s : State) (x : Eeprom) : (s.withEeprom x).clock = s.clock := rfl
@[simp] theorem withEeprom_lots (s : State) (x : Eeprom) : (s.withEeprom x).lots = s.lots := rfl
@[simp] theorem withEeprom_steeps (s : State) (x : Eeprom) : (s.withEeprom x).steeps = s.steeps := rfl
@[simp] theorem withEeprom_water (s : State) (x : Eeprom) : (s.withEeprom x).water = s.water := rfl
@[simp] theorem withEeprom_boxes (s : State) (x : Eeprom) : (s.withEeprom x).boxes = s.boxes := rfl
@[simp] theorem withEeprom_turner (s : State) (x : Eeprom) : (s.withEeprom x).turner = s.turner := rfl
@[simp] theorem withEeprom_kilns (s : State) (x : Eeprom) : (s.withEeprom x).kilns = s.kilns := rfl
@[simp] theorem withEeprom_peat (s : State) (x : Eeprom) : (s.withEeprom x).peat = s.peat := rfl
@[simp] theorem withEeprom_sampler (s : State) (x : Eeprom) : (s.withEeprom x).sampler = s.sampler := rfl
@[simp] theorem withEeprom_journal (s : State) (x : Eeprom) : (s.withEeprom x).journal = s.journal := rfl
@[simp] theorem withEeprom_store (s : State) (x : Eeprom) : (s.withEeprom x).store = s.store := rfl
@[simp] theorem withEeprom_alarms (s : State) (x : Eeprom) : (s.withEeprom x).alarms = s.alarms := rfl
@[simp] theorem withEeprom_link (s : State) (x : Eeprom) : (s.withEeprom x).link = s.link := rfl
@[simp] theorem withEeprom_port (s : State) (x : Eeprom) : (s.withEeprom x).port = s.port := rfl
@[simp] theorem withEeprom_eeprom (s : State) (x : Eeprom) : (s.withEeprom x).eeprom = x := rfl
@[simp] theorem withEeprom_freeTaken (s : State) (x : Eeprom) : (s.withEeprom x).freeTaken = s.freeTaken := rfl
@[simp] theorem withEeprom_pending (s : State) (x : Eeprom) : (s.withEeprom x).pending = s.pending := rfl

/-! ### withFreeTaken -/

@[simp] theorem withFreeTaken_powered (s : State) (x : Nat) : (s.withFreeTaken x).powered = s.powered := rfl
@[simp] theorem withFreeTaken_inReset (s : State) (x : Nat) : (s.withFreeTaken x).inReset = s.inReset := rfl
@[simp] theorem withFreeTaken_settings (s : State) (x : Nat) : (s.withFreeTaken x).settings = s.settings := rfl
@[simp] theorem withFreeTaken_clock (s : State) (x : Nat) : (s.withFreeTaken x).clock = s.clock := rfl
@[simp] theorem withFreeTaken_lots (s : State) (x : Nat) : (s.withFreeTaken x).lots = s.lots := rfl
@[simp] theorem withFreeTaken_steeps (s : State) (x : Nat) : (s.withFreeTaken x).steeps = s.steeps := rfl
@[simp] theorem withFreeTaken_water (s : State) (x : Nat) : (s.withFreeTaken x).water = s.water := rfl
@[simp] theorem withFreeTaken_boxes (s : State) (x : Nat) : (s.withFreeTaken x).boxes = s.boxes := rfl
@[simp] theorem withFreeTaken_turner (s : State) (x : Nat) : (s.withFreeTaken x).turner = s.turner := rfl
@[simp] theorem withFreeTaken_kilns (s : State) (x : Nat) : (s.withFreeTaken x).kilns = s.kilns := rfl
@[simp] theorem withFreeTaken_peat (s : State) (x : Nat) : (s.withFreeTaken x).peat = s.peat := rfl
@[simp] theorem withFreeTaken_sampler (s : State) (x : Nat) : (s.withFreeTaken x).sampler = s.sampler := rfl
@[simp] theorem withFreeTaken_journal (s : State) (x : Nat) : (s.withFreeTaken x).journal = s.journal := rfl
@[simp] theorem withFreeTaken_store (s : State) (x : Nat) : (s.withFreeTaken x).store = s.store := rfl
@[simp] theorem withFreeTaken_alarms (s : State) (x : Nat) : (s.withFreeTaken x).alarms = s.alarms := rfl
@[simp] theorem withFreeTaken_link (s : State) (x : Nat) : (s.withFreeTaken x).link = s.link := rfl
@[simp] theorem withFreeTaken_port (s : State) (x : Nat) : (s.withFreeTaken x).port = s.port := rfl
@[simp] theorem withFreeTaken_eeprom (s : State) (x : Nat) : (s.withFreeTaken x).eeprom = s.eeprom := rfl
@[simp] theorem withFreeTaken_freeTaken (s : State) (x : Nat) : (s.withFreeTaken x).freeTaken = x := rfl
@[simp] theorem withFreeTaken_pending (s : State) (x : Nat) : (s.withFreeTaken x).pending = s.pending := rfl

/-! ### withPending -/

@[simp] theorem withPending_powered (s : State) (x : List Instr) : (s.withPending x).powered = s.powered := rfl
@[simp] theorem withPending_inReset (s : State) (x : List Instr) : (s.withPending x).inReset = s.inReset := rfl
@[simp] theorem withPending_settings (s : State) (x : List Instr) : (s.withPending x).settings = s.settings := rfl
@[simp] theorem withPending_clock (s : State) (x : List Instr) : (s.withPending x).clock = s.clock := rfl
@[simp] theorem withPending_lots (s : State) (x : List Instr) : (s.withPending x).lots = s.lots := rfl
@[simp] theorem withPending_steeps (s : State) (x : List Instr) : (s.withPending x).steeps = s.steeps := rfl
@[simp] theorem withPending_water (s : State) (x : List Instr) : (s.withPending x).water = s.water := rfl
@[simp] theorem withPending_boxes (s : State) (x : List Instr) : (s.withPending x).boxes = s.boxes := rfl
@[simp] theorem withPending_turner (s : State) (x : List Instr) : (s.withPending x).turner = s.turner := rfl
@[simp] theorem withPending_kilns (s : State) (x : List Instr) : (s.withPending x).kilns = s.kilns := rfl
@[simp] theorem withPending_peat (s : State) (x : List Instr) : (s.withPending x).peat = s.peat := rfl
@[simp] theorem withPending_sampler (s : State) (x : List Instr) : (s.withPending x).sampler = s.sampler := rfl
@[simp] theorem withPending_journal (s : State) (x : List Instr) : (s.withPending x).journal = s.journal := rfl
@[simp] theorem withPending_store (s : State) (x : List Instr) : (s.withPending x).store = s.store := rfl
@[simp] theorem withPending_alarms (s : State) (x : List Instr) : (s.withPending x).alarms = s.alarms := rfl
@[simp] theorem withPending_link (s : State) (x : List Instr) : (s.withPending x).link = s.link := rfl
@[simp] theorem withPending_port (s : State) (x : List Instr) : (s.withPending x).port = s.port := rfl
@[simp] theorem withPending_eeprom (s : State) (x : List Instr) : (s.withPending x).eeprom = s.eeprom := rfl
@[simp] theorem withPending_freeTaken (s : State) (x : List Instr) : (s.withPending x).freeTaken = s.freeTaken := rfl
@[simp] theorem withPending_pending (s : State) (x : List Instr) : (s.withPending x).pending = x := rfl

/-! ### withSteep -/

@[simp] theorem withSteep_powered (s : State) (i : SteepId) (x : Steep) : (s.withSteep i x).powered = s.powered := rfl
@[simp] theorem withSteep_inReset (s : State) (i : SteepId) (x : Steep) : (s.withSteep i x).inReset = s.inReset := rfl
@[simp] theorem withSteep_settings (s : State) (i : SteepId) (x : Steep) : (s.withSteep i x).settings = s.settings := rfl
@[simp] theorem withSteep_clock (s : State) (i : SteepId) (x : Steep) : (s.withSteep i x).clock = s.clock := rfl
@[simp] theorem withSteep_lots (s : State) (i : SteepId) (x : Steep) : (s.withSteep i x).lots = s.lots := rfl
@[simp] theorem withSteep_steeps (s : State) (i : SteepId) (x : Steep) : (s.withSteep i x).steeps = s.steeps.set i x := rfl
@[simp] theorem withSteep_water (s : State) (i : SteepId) (x : Steep) : (s.withSteep i x).water = s.water := rfl
@[simp] theorem withSteep_boxes (s : State) (i : SteepId) (x : Steep) : (s.withSteep i x).boxes = s.boxes := rfl
@[simp] theorem withSteep_turner (s : State) (i : SteepId) (x : Steep) : (s.withSteep i x).turner = s.turner := rfl
@[simp] theorem withSteep_kilns (s : State) (i : SteepId) (x : Steep) : (s.withSteep i x).kilns = s.kilns := rfl
@[simp] theorem withSteep_peat (s : State) (i : SteepId) (x : Steep) : (s.withSteep i x).peat = s.peat := rfl
@[simp] theorem withSteep_sampler (s : State) (i : SteepId) (x : Steep) : (s.withSteep i x).sampler = s.sampler := rfl
@[simp] theorem withSteep_journal (s : State) (i : SteepId) (x : Steep) : (s.withSteep i x).journal = s.journal := rfl
@[simp] theorem withSteep_store (s : State) (i : SteepId) (x : Steep) : (s.withSteep i x).store = s.store := rfl
@[simp] theorem withSteep_alarms (s : State) (i : SteepId) (x : Steep) : (s.withSteep i x).alarms = s.alarms := rfl
@[simp] theorem withSteep_link (s : State) (i : SteepId) (x : Steep) : (s.withSteep i x).link = s.link := rfl
@[simp] theorem withSteep_port (s : State) (i : SteepId) (x : Steep) : (s.withSteep i x).port = s.port := rfl
@[simp] theorem withSteep_eeprom (s : State) (i : SteepId) (x : Steep) : (s.withSteep i x).eeprom = s.eeprom := rfl
@[simp] theorem withSteep_freeTaken (s : State) (i : SteepId) (x : Steep) : (s.withSteep i x).freeTaken = s.freeTaken := rfl
@[simp] theorem withSteep_pending (s : State) (i : SteepId) (x : Steep) : (s.withSteep i x).pending = s.pending := rfl

@[simp] theorem withSteep_steep (s : State) (i : SteepId) (x : Steep) : (s.withSteep i x).steep i = x := by
  simp [withSteep, steep]

theorem withSteep_steep_ne (s : State) (i j : SteepId) (x : Steep) (h : i ≠ j) : (s.withSteep i x).steep j = s.steep j := by
  have : i.val ≠ j.val := fun e => h (Fin.ext e)
  simp [withSteep, steep, this]

@[simp] theorem withSteep_withSteep (s : State) (i : SteepId) (x y : Steep) : (s.withSteep i x).withSteep i y = s.withSteep i y := by
  simp [withSteep]

/-! ### withBox -/

@[simp] theorem withBox_powered (s : State) (i : BoxId) (x : Box) : (s.withBox i x).powered = s.powered := rfl
@[simp] theorem withBox_inReset (s : State) (i : BoxId) (x : Box) : (s.withBox i x).inReset = s.inReset := rfl
@[simp] theorem withBox_settings (s : State) (i : BoxId) (x : Box) : (s.withBox i x).settings = s.settings := rfl
@[simp] theorem withBox_clock (s : State) (i : BoxId) (x : Box) : (s.withBox i x).clock = s.clock := rfl
@[simp] theorem withBox_lots (s : State) (i : BoxId) (x : Box) : (s.withBox i x).lots = s.lots := rfl
@[simp] theorem withBox_steeps (s : State) (i : BoxId) (x : Box) : (s.withBox i x).steeps = s.steeps := rfl
@[simp] theorem withBox_water (s : State) (i : BoxId) (x : Box) : (s.withBox i x).water = s.water := rfl
@[simp] theorem withBox_boxes (s : State) (i : BoxId) (x : Box) : (s.withBox i x).boxes = s.boxes.set i x := rfl
@[simp] theorem withBox_turner (s : State) (i : BoxId) (x : Box) : (s.withBox i x).turner = s.turner := rfl
@[simp] theorem withBox_kilns (s : State) (i : BoxId) (x : Box) : (s.withBox i x).kilns = s.kilns := rfl
@[simp] theorem withBox_peat (s : State) (i : BoxId) (x : Box) : (s.withBox i x).peat = s.peat := rfl
@[simp] theorem withBox_sampler (s : State) (i : BoxId) (x : Box) : (s.withBox i x).sampler = s.sampler := rfl
@[simp] theorem withBox_journal (s : State) (i : BoxId) (x : Box) : (s.withBox i x).journal = s.journal := rfl
@[simp] theorem withBox_store (s : State) (i : BoxId) (x : Box) : (s.withBox i x).store = s.store := rfl
@[simp] theorem withBox_alarms (s : State) (i : BoxId) (x : Box) : (s.withBox i x).alarms = s.alarms := rfl
@[simp] theorem withBox_link (s : State) (i : BoxId) (x : Box) : (s.withBox i x).link = s.link := rfl
@[simp] theorem withBox_port (s : State) (i : BoxId) (x : Box) : (s.withBox i x).port = s.port := rfl
@[simp] theorem withBox_eeprom (s : State) (i : BoxId) (x : Box) : (s.withBox i x).eeprom = s.eeprom := rfl
@[simp] theorem withBox_freeTaken (s : State) (i : BoxId) (x : Box) : (s.withBox i x).freeTaken = s.freeTaken := rfl
@[simp] theorem withBox_pending (s : State) (i : BoxId) (x : Box) : (s.withBox i x).pending = s.pending := rfl

@[simp] theorem withBox_box (s : State) (i : BoxId) (x : Box) : (s.withBox i x).box i = x := by
  simp [withBox, box]

theorem withBox_box_ne (s : State) (i j : BoxId) (x : Box) (h : i ≠ j) : (s.withBox i x).box j = s.box j := by
  have : i.val ≠ j.val := fun e => h (Fin.ext e)
  simp [withBox, box, this]

@[simp] theorem withBox_withBox (s : State) (i : BoxId) (x y : Box) : (s.withBox i x).withBox i y = s.withBox i y := by
  simp [withBox]

/-! ### withKiln -/

@[simp] theorem withKiln_powered (s : State) (i : KilnId) (x : Kiln) : (s.withKiln i x).powered = s.powered := rfl
@[simp] theorem withKiln_inReset (s : State) (i : KilnId) (x : Kiln) : (s.withKiln i x).inReset = s.inReset := rfl
@[simp] theorem withKiln_settings (s : State) (i : KilnId) (x : Kiln) : (s.withKiln i x).settings = s.settings := rfl
@[simp] theorem withKiln_clock (s : State) (i : KilnId) (x : Kiln) : (s.withKiln i x).clock = s.clock := rfl
@[simp] theorem withKiln_lots (s : State) (i : KilnId) (x : Kiln) : (s.withKiln i x).lots = s.lots := rfl
@[simp] theorem withKiln_steeps (s : State) (i : KilnId) (x : Kiln) : (s.withKiln i x).steeps = s.steeps := rfl
@[simp] theorem withKiln_water (s : State) (i : KilnId) (x : Kiln) : (s.withKiln i x).water = s.water := rfl
@[simp] theorem withKiln_boxes (s : State) (i : KilnId) (x : Kiln) : (s.withKiln i x).boxes = s.boxes := rfl
@[simp] theorem withKiln_turner (s : State) (i : KilnId) (x : Kiln) : (s.withKiln i x).turner = s.turner := rfl
@[simp] theorem withKiln_kilns (s : State) (i : KilnId) (x : Kiln) : (s.withKiln i x).kilns = s.kilns.set i x := rfl
@[simp] theorem withKiln_peat (s : State) (i : KilnId) (x : Kiln) : (s.withKiln i x).peat = s.peat := rfl
@[simp] theorem withKiln_sampler (s : State) (i : KilnId) (x : Kiln) : (s.withKiln i x).sampler = s.sampler := rfl
@[simp] theorem withKiln_journal (s : State) (i : KilnId) (x : Kiln) : (s.withKiln i x).journal = s.journal := rfl
@[simp] theorem withKiln_store (s : State) (i : KilnId) (x : Kiln) : (s.withKiln i x).store = s.store := rfl
@[simp] theorem withKiln_alarms (s : State) (i : KilnId) (x : Kiln) : (s.withKiln i x).alarms = s.alarms := rfl
@[simp] theorem withKiln_link (s : State) (i : KilnId) (x : Kiln) : (s.withKiln i x).link = s.link := rfl
@[simp] theorem withKiln_port (s : State) (i : KilnId) (x : Kiln) : (s.withKiln i x).port = s.port := rfl
@[simp] theorem withKiln_eeprom (s : State) (i : KilnId) (x : Kiln) : (s.withKiln i x).eeprom = s.eeprom := rfl
@[simp] theorem withKiln_freeTaken (s : State) (i : KilnId) (x : Kiln) : (s.withKiln i x).freeTaken = s.freeTaken := rfl
@[simp] theorem withKiln_pending (s : State) (i : KilnId) (x : Kiln) : (s.withKiln i x).pending = s.pending := rfl

@[simp] theorem withKiln_kiln (s : State) (i : KilnId) (x : Kiln) : (s.withKiln i x).kiln i = x := by
  simp [withKiln, kiln]

theorem withKiln_kiln_ne (s : State) (i j : KilnId) (x : Kiln) (h : i ≠ j) : (s.withKiln i x).kiln j = s.kiln j := by
  have : i.val ≠ j.val := fun e => h (Fin.ext e)
  simp [withKiln, kiln, this]

@[simp] theorem withKiln_withKiln (s : State) (i : KilnId) (x y : Kiln) : (s.withKiln i x).withKiln i y = s.withKiln i y := by
  simp [withKiln]

/-! ### steep through the other updates -/

@[simp] theorem withSettings_steep (s : State) (x : Settings) (i : SteepId) : (s.withSettings x).steep i = s.steep i := rfl
@[simp] theorem withClock_steep (s : State) (x : Clock) (i : SteepId) : (s.withClock x).steep i = s.steep i := rfl
@[simp] theorem withLots_steep (s : State) (x : List Lot) (i : SteepId) : (s.withLots x).steep i = s.steep i := rfl
@[simp] theorem withWater_steep (s : State) (x : Water) (i : SteepId) : (s.withWater x).steep i = s.steep i := rfl
@[simp] theorem withTurner_steep (s : State) (x : Turner) (i : SteepId) : (s.withTurner x).steep i = s.steep i := rfl
@[simp] theorem withPeat_steep (s : State) (x : Peat) (i : SteepId) : (s.withPeat x).steep i = s.steep i := rfl
@[simp] theorem withSampler_steep (s : State) (x : Sampler) (i : SteepId) : (s.withSampler x).steep i = s.steep i := rfl
@[simp] theorem withJournal_steep (s : State) (x : Journal) (i : SteepId) : (s.withJournal x).steep i = s.steep i := rfl
@[simp] theorem withStore_steep (s : State) (x : List Host.Cell) (i : SteepId) : (s.withStore x).steep i = s.steep i := rfl
@[simp] theorem withAlarms_steep (s : State) (x : Alarms) (i : SteepId) : (s.withAlarms x).steep i = s.steep i := rfl
@[simp] theorem withLink_steep (s : State) (x : Link) (i : SteepId) : (s.withLink x).steep i = s.steep i := rfl
@[simp] theorem withPort_steep (s : State) (x : Port) (i : SteepId) : (s.withPort x).steep i = s.steep i := rfl
@[simp] theorem withEeprom_steep (s : State) (x : Eeprom) (i : SteepId) : (s.withEeprom x).steep i = s.steep i := rfl
@[simp] theorem withFreeTaken_steep (s : State) (x : Nat) (i : SteepId) : (s.withFreeTaken x).steep i = s.steep i := rfl
@[simp] theorem withPending_steep (s : State) (x : List Instr) (i : SteepId) : (s.withPending x).steep i = s.steep i := rfl
@[simp] theorem withBox_steep (s : State) (j : BoxId) (x : Box) (i : SteepId) : (s.withBox j x).steep i = s.steep i := rfl
@[simp] theorem withKiln_steep (s : State) (j : KilnId) (x : Kiln) (i : SteepId) : (s.withKiln j x).steep i = s.steep i := rfl

/-! ### box through the other updates -/

@[simp] theorem withSettings_box (s : State) (x : Settings) (i : BoxId) : (s.withSettings x).box i = s.box i := rfl
@[simp] theorem withClock_box (s : State) (x : Clock) (i : BoxId) : (s.withClock x).box i = s.box i := rfl
@[simp] theorem withLots_box (s : State) (x : List Lot) (i : BoxId) : (s.withLots x).box i = s.box i := rfl
@[simp] theorem withWater_box (s : State) (x : Water) (i : BoxId) : (s.withWater x).box i = s.box i := rfl
@[simp] theorem withTurner_box (s : State) (x : Turner) (i : BoxId) : (s.withTurner x).box i = s.box i := rfl
@[simp] theorem withPeat_box (s : State) (x : Peat) (i : BoxId) : (s.withPeat x).box i = s.box i := rfl
@[simp] theorem withSampler_box (s : State) (x : Sampler) (i : BoxId) : (s.withSampler x).box i = s.box i := rfl
@[simp] theorem withJournal_box (s : State) (x : Journal) (i : BoxId) : (s.withJournal x).box i = s.box i := rfl
@[simp] theorem withStore_box (s : State) (x : List Host.Cell) (i : BoxId) : (s.withStore x).box i = s.box i := rfl
@[simp] theorem withAlarms_box (s : State) (x : Alarms) (i : BoxId) : (s.withAlarms x).box i = s.box i := rfl
@[simp] theorem withLink_box (s : State) (x : Link) (i : BoxId) : (s.withLink x).box i = s.box i := rfl
@[simp] theorem withPort_box (s : State) (x : Port) (i : BoxId) : (s.withPort x).box i = s.box i := rfl
@[simp] theorem withEeprom_box (s : State) (x : Eeprom) (i : BoxId) : (s.withEeprom x).box i = s.box i := rfl
@[simp] theorem withFreeTaken_box (s : State) (x : Nat) (i : BoxId) : (s.withFreeTaken x).box i = s.box i := rfl
@[simp] theorem withPending_box (s : State) (x : List Instr) (i : BoxId) : (s.withPending x).box i = s.box i := rfl
@[simp] theorem withSteep_box (s : State) (j : SteepId) (x : Steep) (i : BoxId) : (s.withSteep j x).box i = s.box i := rfl
@[simp] theorem withKiln_box (s : State) (j : KilnId) (x : Kiln) (i : BoxId) : (s.withKiln j x).box i = s.box i := rfl

/-! ### kiln through the other updates -/

@[simp] theorem withSettings_kiln (s : State) (x : Settings) (i : KilnId) : (s.withSettings x).kiln i = s.kiln i := rfl
@[simp] theorem withClock_kiln (s : State) (x : Clock) (i : KilnId) : (s.withClock x).kiln i = s.kiln i := rfl
@[simp] theorem withLots_kiln (s : State) (x : List Lot) (i : KilnId) : (s.withLots x).kiln i = s.kiln i := rfl
@[simp] theorem withWater_kiln (s : State) (x : Water) (i : KilnId) : (s.withWater x).kiln i = s.kiln i := rfl
@[simp] theorem withTurner_kiln (s : State) (x : Turner) (i : KilnId) : (s.withTurner x).kiln i = s.kiln i := rfl
@[simp] theorem withPeat_kiln (s : State) (x : Peat) (i : KilnId) : (s.withPeat x).kiln i = s.kiln i := rfl
@[simp] theorem withSampler_kiln (s : State) (x : Sampler) (i : KilnId) : (s.withSampler x).kiln i = s.kiln i := rfl
@[simp] theorem withJournal_kiln (s : State) (x : Journal) (i : KilnId) : (s.withJournal x).kiln i = s.kiln i := rfl
@[simp] theorem withStore_kiln (s : State) (x : List Host.Cell) (i : KilnId) : (s.withStore x).kiln i = s.kiln i := rfl
@[simp] theorem withAlarms_kiln (s : State) (x : Alarms) (i : KilnId) : (s.withAlarms x).kiln i = s.kiln i := rfl
@[simp] theorem withLink_kiln (s : State) (x : Link) (i : KilnId) : (s.withLink x).kiln i = s.kiln i := rfl
@[simp] theorem withPort_kiln (s : State) (x : Port) (i : KilnId) : (s.withPort x).kiln i = s.kiln i := rfl
@[simp] theorem withEeprom_kiln (s : State) (x : Eeprom) (i : KilnId) : (s.withEeprom x).kiln i = s.kiln i := rfl
@[simp] theorem withFreeTaken_kiln (s : State) (x : Nat) (i : KilnId) : (s.withFreeTaken x).kiln i = s.kiln i := rfl
@[simp] theorem withPending_kiln (s : State) (x : List Instr) (i : KilnId) : (s.withPending x).kiln i = s.kiln i := rfl
@[simp] theorem withSteep_kiln (s : State) (j : SteepId) (x : Steep) (i : KilnId) : (s.withSteep j x).kiln i = s.kiln i := rfl
@[simp] theorem withBox_kiln (s : State) (j : BoxId) (x : Box) (i : KilnId) : (s.withBox j x).kiln i = s.kiln i := rfl

end Sys2Proof.Machine.State
end

