-- ==== Sys2Proof/Laws/Ops.lean ====
section
/-! SUPPORT. What each shared operation can do, said once: the Alarm List's operations touch the alarms and the notice queue, the
journal's touch those and the journal, a taken request is answered by its block. -/

namespace Sys2Proof.Machine

/-! ### Alarms and notices -/

/-- Two states that differ only in the alarms, the notice queue, its number and its overflow flag. -/
def AlarmsMove (s t : State) : Prop :=
  ∃ a q n o, t = (s.withAlarms a).withPort { s.port with notices := q, noticeNumber := n, noticeOverflow := o }

theorem AlarmsMove.refl (s : State) : AlarmsMove s s := ⟨s.alarms, _, _, _, rfl⟩

theorem AlarmsMove.trans {s t u : State} (h : AlarmsMove s t) (k : AlarmsMove t u) : AlarmsMove s u := by
  obtain ⟨a, q, n, o, rfl⟩ := h
  obtain ⟨b, r, m, p, rfl⟩ := k
  exact ⟨b, r, m, p, rfl⟩

theorem AlarmsMove.withAlarms (s : State) (a : Alarms) : AlarmsMove s (s.withAlarms a) := ⟨a, _, _, _, rfl⟩

theorem notify_moves (s : State) (body : NoticeBody) : AlarmsMove s (s.notify body) := by
  unfold State.notify
  split
  · split
    · exact ⟨s.alarms, _, _, _, rfl⟩
    · exact ⟨s.alarms, s.port.notices, _, _, rfl⟩
  · exact AlarmsMove.refl s

theorem notifyChange_moves (s : State) (x : Subject) (a z : Nat) : AlarmsMove s (s.notifyChange x a z) := by
  unfold State.notifyChange
  split
  · exact AlarmsMove.refl s
  · exact notify_moves s _

theorem hornTest_moves (s : State) : AlarmsMove s s.hornTest := by
  unfold State.hornTest
  split
  · split
    · exact AlarmsMove.withAlarms s _
    · exact AlarmsMove.refl s
  · exact AlarmsMove.withAlarms s _

theorem newAlarm_moves (s : State) (x : Source) (k : AlarmKind) : AlarmsMove s (s.newAlarm x k) := by
  have h := notify_moves s (.alarmRaised x k s.now)
  unfold State.newAlarm
  generalize s.notify (.alarmRaised x k s.now) = t at h ⊢
  refine h.trans ?_
  dsimp only
  split
  · exact AlarmsMove.withAlarms _ _
  · exact hornTest_moves _

theorem enterAlarm_moves (s : State) (x : Source) (k : AlarmKind) : AlarmsMove s (s.enterAlarm x k) := by
  unfold State.enterAlarm
  split
  · exact (AlarmsMove.withAlarms s _).trans (newAlarm_moves _ x k)
  · split
    · exact (AlarmsMove.withAlarms s _).trans (newAlarm_moves _ x k)
    · exact AlarmsMove.withAlarms s _

theorem arise_moves (s : State) (x : Source) (k : AlarmKind) : AlarmsMove s (s.arise x k) := by
  unfold State.arise
  split
  · exact enterAlarm_moves s x k
  · split
    · exact (AlarmsMove.withAlarms s _).trans (newAlarm_moves _ x k)
    · exact AlarmsMove.refl s

/-- A report of raising touches the alarms and the notices, nothing else (R141). -/
theorem raise_moves (s : State) (x : Source) (k : AlarmKind) : AlarmsMove s (s.raise x k) := by
  have h : ∀ t : State, AlarmsMove t
      (if t.alarmEnabled x k.category then
        if s.alarms.standing.contains ⟨x, k⟩ then (if (t.alarmEntry? x k).isNone then t.enterAlarm x k else t)
        else t.arise x k
      else t) := by
    intro t
    split
    · split
      · split
        · exact enterAlarm_moves t x k
        · exact AlarmsMove.refl t
      · exact arise_moves t x k
    · exact AlarmsMove.refl t
  unfold State.raise
  refine AlarmsMove.trans ?_ (h _)
  split
  · exact AlarmsMove.refl s
  · exact AlarmsMove.withAlarms s _

/-- A report of ending touches the alarms and the notices, nothing else (R142). -/
theorem ended_moves (s : State) (x : Source) (k : AlarmKind) : AlarmsMove s (s.ended x k) := by
  unfold State.ended
  split
  · have h := AlarmsMove.withAlarms s { s.alarms with standing := s.alarms.standing.filter (· != ⟨x, k⟩) }
    generalize s.withAlarms { s.alarms with standing := s.alarms.standing.filter (· != ⟨x, k⟩) } = t at h ⊢
    refine h.trans ?_
    dsimp only
    split
    · exact AlarmsMove.refl _
    · split
      · exact AlarmsMove.refl _
      · exact ((AlarmsMove.withAlarms _ _).trans (notify_moves _ _)).trans (hornTest_moves _)
      · exact ((AlarmsMove.withAlarms _ _).trans (notify_moves _ _)).trans (hornTest_moves _)
  · exact AlarmsMove.refl s

/-! ### The journal -/

theorem journalTest_moves (s : State) : AlarmsMove s s.journalTest := by
  have h : ∀ t : State, AlarmsMove t (if 3 ≤ t.room then t.ended .journal .journalFull else t) := by
    intro t
    split
    · exact ended_moves t _ _
    · exact AlarmsMove.refl t
  unfold State.journalTest
  refine AlarmsMove.trans ?_ (h _)
  split
  · split
    · exact AlarmsMove.refl s
    · exact raise_moves s _ _
  · exact ended_moves s _ _

/-- Two states that differ only in the journal, the alarms and the notices. -/
def JournalMoves (s t : State) : Prop := ∃ j, AlarmsMove (s.withJournal j) t

theorem enqueueWrite_eq (s : State) (i : WriteItem) : ∃ j, s.enqueueWrite i = s.withJournal j := by
  unfold State.enqueueWrite State.beginWrite
  split <;> split <;> exact ⟨_, rfl⟩

/-- Numbering an entry touches the journal, the alarms and the notices, nothing else (R128, R129). -/
theorem numberEntry_moves (s : State) (reserved : Bool) (e : Entry) : JournalMoves s (s.numberEntry reserved e) := by
  unfold State.numberEntry
  obtain ⟨j, hj⟩ := enqueueWrite_eq (s.withJournal { s.journal with
    next := s.journal.next + 1, reserved := if reserved then s.journal.reserved - 1 else s.journal.reserved })
    (.entry { e with number := s.journal.next, minute := s.now })
  refine ⟨j, ?_⟩
  simp only [hj]
  exact (notify_moves _ _).trans (journalTest_moves _)

theorem reserve_moves (s : State) (k : Nat) : JournalMoves s (s.reserve k) := ⟨_, journalTest_moves _⟩

theorem returnReservations_moves (s : State) (k : Nat) : JournalMoves s (s.returnReservations k) := ⟨_, journalTest_moves _⟩

/-! ### Entries to states -/

/-- Entry to a steep's state touches that steep and the notices (R25). -/
theorem steepEnter_moves (s : State) (v : SteepId) (x : SteepState) :
    AlarmsMove (s.withSteep v { s.steep v with state := x, valveOpen := false, outlet := outletIn x, air := s.airCommand v x })
      (s.steepEnter v x) := notifyChange_moves _ _ _ _

/-- Entry to a box's state touches that box and the notices (R55). -/
theorem boxEnter_moves (s : State) (b : BoxId) (x : BoxState) :
    AlarmsMove (s.withBox b { s.box b with state := x, gate := boxGate x }) (s.boxEnter b x) := notifyChange_moves _ _ _ _

/-- Entry to a kiln's phase touches that kiln and the notices (R86, R87). -/
theorem kilnEnter_moves (s : State) (k : KilnId) (x : KilnPhase) : ∃ y, AlarmsMove (s.withKiln k y) (s.kilnEnter k x) := by
  unfold State.kilnEnter
  split
  · exact ⟨_, AlarmsMove.refl _⟩
  · exact ⟨_, notifyChange_moves _ _ _ _⟩

/-! ### Requests and events -/

/-- A request that finds the port taking frames and READY is answered by its block (R163). -/
theorem takeRequest_ready {s : State} {kind : Byte} {act : State → Answer} (h : s.takesFrames = true)
    (hp : s.port.state = .ready) : s.takeRequest kind act = (act s).1.answer kind (act s).2 := by
  simp [State.takeRequest, h, hp]

/-- A request that finds the port ANSWERING is discarded (R163). -/
theorem takeRequest_answering {s : State} {kind : Byte} {act : State → Answer} (h : s.takesFrames = true)
    (hp : s.port.state = .answering) : s.takeRequest kind act = s.discardFrame := by
  simp [State.takeRequest, h, hp]

/-- A request that finds no frames taken has no effect (R169). -/
theorem takeRequest_deaf {s : State} {kind : Byte} {act : State → Answer} (h : s.takesFrames = false) :
    s.takeRequest kind act = s := by
  simp [State.takeRequest, h]

theorem whenRunning_running {s : State} {f : State → State} (h : s.running = true) : s.whenRunning f = f s := by
  simp [State.whenRunning, h]

theorem whenRunning_stopped {s : State} {f : State → State} (h : s.running = false) : s.whenRunning f = s := by
  simp [State.whenRunning, h]

theorem whenArrives_entry {s : State} {x : Site} {r : Reading} {v : Int} {f : State → State} (h : s.running = true)
    (he : (s.imageEntry? x r).isSome = true) : s.whenArrives x r v f = f (s.arrive x r v) := by
  simp [State.whenArrives, h, he]

end Sys2Proof.Machine
end

