-- ==== Sys2Proof/Laws/Store.lean ====
section
/-! SUPPORT. The journal store as memory: a byte written is the byte read, every other byte reads as before, and every operation
keeps the canonical form (R172). -/

namespace Sys2Proof.Machine.Store

open Sys2Proof.Machine

theorem wfFrom_mono {m : List Host.Cell} {lo lo' : Nat} (h : lo' ≤ lo) (hm : wfFrom lo m = true) : wfFrom lo' m = true := by
  cases m with
  | nil => rfl
  | cons c rest =>
    simp only [wfFrom, Bool.and_eq_true, decide_eq_true_eq] at hm ⊢
    exact ⟨⟨⟨by omega, hm.1.1.2⟩, hm.1.2⟩, hm.2⟩

/-- An address below every listed one reads as erased. -/
theorem read_below {m : List Host.Cell} {lo a : Nat} (hm : wfFrom lo m = true) (h : a < lo) : read m a = erased := by
  cases m with
  | nil => rfl
  | cons c rest =>
    simp only [wfFrom, Bool.and_eq_true, decide_eq_true_eq] at hm
    have : a < c.1 := by omega
    simp [read, this]

/-- A write keeps the canonical form. -/
theorem wfFrom_write {m : List Host.Cell} {lo a : Nat} (v : Byte) (hm : wfFrom lo m = true) (hlo : lo ≤ a) (ha : a < size) :
    wfFrom lo (write m a v) = true := by
  induction m generalizing lo with
  | nil => by_cases hv : v = erased <;> simp [write, wfFrom, hv, hlo, ha]
  | cons c rest ih =>
    obtain ⟨k, b⟩ := c
    simp only [wfFrom, Bool.and_eq_true, decide_eq_true_eq] at hm
    obtain ⟨⟨⟨h1, h2⟩, h3⟩, h4⟩ := hm
    unfold write
    split
    · split
      · simp [wfFrom, h1, h2, h3, h4]
      · rename_i hk hv
        have : a + 1 ≤ k := hk
        simp [wfFrom, hlo, ha, hv, h2, h3, h4, this]
    · split
      · split
        · exact wfFrom_mono (by omega) h4
        · rename_i hk ha' hv
          subst ha'
          simp [wfFrom, hlo, ha, hv, h4]
      · have : wfFrom (k + 1) (write rest a v) = true := ih h4 (by omega)
        simp [wfFrom, h1, h2, h3, this]

/-- A byte written is the byte read. -/
theorem read_write_same {m : List Host.Cell} {lo : Nat} (a : Nat) (v : Byte) (hm : wfFrom lo m = true) :
    read (write m a v) a = v := by
  induction m generalizing lo with
  | nil => by_cases hv : v = erased <;> simp [write, read, hv]
  | cons c rest ih =>
    obtain ⟨k, b⟩ := c
    simp only [wfFrom, Bool.and_eq_true, decide_eq_true_eq] at hm
    obtain ⟨⟨⟨h1, h2⟩, h3⟩, h4⟩ := hm
    unfold write
    split
    · rename_i hk
      split
      · rename_i hv; subst hv; simp [read, hk]
      · simp [read]
    · split
      · rename_i hk ha'
        subst ha'
        split
        · rename_i hv; subst hv; exact read_below h4 (by omega)
        · simp [read]
      · rename_i hk ha'
        simp [read, hk, ha', ih h4]

/-- Every other byte reads as before. -/
theorem read_write_other {m : List Host.Cell} {lo : Nat} (a x : Nat) (v : Byte) (hm : wfFrom lo m = true) (hx : x ≠ a) :
    read (write m a v) x = read m x := by
  induction m generalizing lo with
  | nil => by_cases hv : v = erased <;> simp [write, read, hv, hx]
  | cons c rest ih =>
    obtain ⟨k, b⟩ := c
    simp only [wfFrom, Bool.and_eq_true, decide_eq_true_eq] at hm
    obtain ⟨⟨⟨h1, h2⟩, h3⟩, h4⟩ := hm
    unfold write
    split
    · rename_i hk
      split
      · rfl
      · simp only [read, hx, if_false]
        split
        · rename_i hlt; rw [if_pos (by omega)]
        · rfl
    · split
      · rename_i hk ha'
        subst ha'
        split
        · simp only [read, hx, if_false]
          split
          · rename_i hlt; exact read_below h4 (by omega)
          · rfl
        · simp [read, hx]
      · simp [read, ih h4]

theorem wf_writeBytes {m : List Host.Cell} {a : Nat} {bytes : List Byte} (hm : wf m = true) (ha : a + bytes.length ≤ size) :
    wf (writeBytes m a bytes) = true := by
  induction bytes generalizing m a with
  | nil => exact hm
  | cons b rest ih =>
    simp only [List.length_cons] at ha
    exact ih (wfFrom_write b hm (Nat.zero_le a) (by omega)) (by omega)

theorem length_fit (bytes : List Byte) : (fit bytes).length = 32 := by
  simp [fit]

/-- Writing a record place keeps the canonical form. -/
theorem wf_writeRecord {m : List Host.Cell} (p : Nat) (bytes : List Byte) (hm : wf m = true) :
    wf (writeRecord m p bytes) = true := by
  unfold writeRecord
  split
  · rename_i hp
    refine wf_writeBytes hm ?_
    rw [length_fit]
    unfold size
    omega
  · exact hm

theorem wfFrom_filter {m : List Host.Cell} {lo : Nat} (p : Host.Cell → Bool) (hm : wfFrom lo m = true) :
    wfFrom lo (m.filter p) = true := by
  induction m generalizing lo with
  | nil => rfl
  | cons c rest ih =>
    simp only [wfFrom, Bool.and_eq_true, decide_eq_true_eq] at hm
    obtain ⟨⟨⟨h1, h2⟩, h3⟩, h4⟩ := hm
    rw [List.filter_cons]
    split
    · simp [wfFrom, h1, h2, h3, ih h4]
    · exact wfFrom_mono (by omega) (ih h4)

/-- Erasing keeps the canonical form. -/
theorem wf_eraseUpTo {m : List Host.Cell} (n : Nat) (hm : wf m = true) : wf (eraseUpTo m n) = true := wfFrom_filter _ hm

end Sys2Proof.Machine.Store
end

