-- ==== Sys2Proof/Tests/Slice0.lean ====
section
/-! SUPPORT. Tests of our own: each well-formedness check refuses an ill-formed command, worked values of the manual, and for every
statement with hypotheses a state and operands that meet them. -/

namespace Sys2Proof.Tests

open Sys2Proof Sys2Proof.Machine

set_option maxRecDepth 20000

/-! ### States to test on -/

/-- A part that has started: the journal runs, the sampler and the link are IDLE, every place has a station bound, the port is
READY. -/
def up : State :=
  { State.reset with
    settings := { Settings.default with bindings := Vector.ofFn fun i => some (BitVec.ofNat 32 (i.val + 1)) }
    journal := { Journal.reset with state := .running }
    sampler := { Sampler.reset with state := .idle }
    link := Link.reset
    port := Port.reset .powerOn false }

/-- A state whose image holds a fresh value of a site's reading. -/
def hears (s : State) (x : Site) (r : Reading) (v : Int) : State :=
  s.withLink { s.link with
    image := { serial := (s.serialOf? x).getD 0, reading := r, value := some v, age := 3, fed := false } :: s.link.image }

/-- A lot in a place. -/
def grain (n : Nat) (p : Vessel) : Lot := { newLot n 0 30000 4100 none (some 4200) (some 60) with place := p }

/-- A transfer to a place. -/
def moving (d : Place) (flowing : Bool) (reserved : Nat) : Transfer :=
  { dest := d, flowing := flowing, outMass := if d = .out then some 26000 else none, minutes := 95
    timeout := if flowing then some 90 else none, reserved := reserved, resolved := flowing, lateRaised := false }

/-! ### The machine -/

theorem test_powerUp_gives_the_reset_state : State.powerUp State.reset .powerOn true = State.reset := by decide

theorem witness_StepRunsFrontCommand : (up.withPending [.lotList]).pending = .lotList :: [] ∧ up.pending = [] := by decide

theorem witness_CommandsKeepTheQueueAndTheClock :
    State.startsAfresh .takeHead = false ∧ (∀ o, Instr.takeHead ≠ .plantMinute o) ∧ (∀ n, Instr.takeHead ≠ .setClock n) ∧
    (∀ l, Instr.takeHead ≠ .startByteReceived l) ∧ exec .takeHead up = .next up := ⟨rfl, nofun, nofun, nofun, rfl⟩

theorem witness_StoppedPartIgnoresCommands :
    (up.withLines false false).running = false ∧ State.reachesStopped .lotList = false := by decide

/-- Two lots, one of them on its way to a kiln. -/
def twoLots : State :=
  up.withLots [grain 1 (.steep 0), { grain 2 (.box 0) with transfer := some (moving (.vessel (.kiln 0)) true 0) }]

theorem witness_StepKeepsCapacitiesAndTheStore :
    twoLots.bounded = true ∧ twoLots.storeSound = true ∧ step twoLots = .next twoLots := ⟨by decide, by decide, rfl⟩

theorem twoLots_occupancySound : twoLots.occupancySound := by unfold State.occupancySound; decide

/-- A lot dries in a kiln. -/
def kilned : State := up.withLots [{ grain 1 (.kiln 0) with q := some 1024, shortfall := some 1440 }]

/-- A lot on its way out, each field at an end of its range, and a command that waits. -/
def worn : Lot :=
  { grain 65535 (.kiln 0) with
    massIn := 60000, wcap := 5200, target := 4800, minSteep := 4294967295, minBox := 4294967295, turnCount := 65535
    sinceTurn := some 4294967295, aborted := 65535, peatTarget := 1440, q := some 1024, shortfall := some 1440
    transfer := some { dest := .out, flowing := false, outMass := some 60000, minutes := 0, timeout := none, reserved := 3
                       resolved := false, lateRaised := false } }
def wornAsked : State := (up.withLots [worn]).withPending [.lotQuery (.lot 65535)]

theorem kilned_turnerSound : kilned.turnerSound := by
  refine ⟨by simp [kilned, up, State.withLots, State.reset, Turner.reset], by decide, ?_⟩
  intro op h; exact absurd h (by simp [kilned, up, State.withLots, State.reset, Turner.reset])

theorem worn_inRange : ∀ l ∈ wornAsked.lots, l.inRange := by
  intro l h
  rw [show wornAsked.lots = [worn] from rfl, List.mem_singleton] at h
  subst h
  refine ⟨by decide, by decide, by decide, by decide, by decide, by decide, by decide, ?_, by decide, by decide, ?_, ?_, ?_⟩
  · intro x hx; cases hx; decide
  · intro x hx; cases hx; decide
  · intro x hx; cases hx; decide
  · intro x m hx hm; cases hx; cases hm; decide

theorem witness_StepKeepsLotsWithinTheirLimits :
    kilned.occupancySound ∧ kilned.moistureSound = true ∧ kilned.peatSound = true ∧ kilned.turnerSound ∧
    (∃ l ∈ kilned.lots, l.place = .kiln 0) ∧ step kilned = .next kilned ∧ (∀ l ∈ wornAsked.lots, l.inRange) ∧
    (∀ c, wornAsked.pending.head? = some c → c.wf = true) ∧ ∃ t, step wornAsked = .next t :=
  ⟨by unfold State.occupancySound; decide, by decide, by decide, kilned_turnerSound, by decide, rfl, worn_inRange,
    fun c h => by cases h; decide, _, rfl⟩

theorem twoLots_lotsOrdered : twoLots.lotsOrdered := by unfold State.lotsOrdered; decide

theorem witness_StepKeepsOneLotPerVessel :
    twoLots.occupancySound ∧ twoLots.lotsOrdered ∧ step twoLots = .next twoLots := ⟨twoLots_occupancySound, twoLots_lotsOrdered, rfl⟩

/-- The turner has faulted, and its alarm sounds the horn. -/
def alarmed : State := up.raise .turner .turnerFault

theorem witness_StepKeepsHornOnDemandOnly : alarmed.hornSound = true ∧ alarmed.hornLine = true ∧ step alarmed = .next alarmed :=
  ⟨by decide, by decide, rfl⟩

theorem witness_StepKeepsCommandsOfStates : up.commandsSound ∧ up.tripSound ∧ step up = .next up := by
  refine ⟨?_, ?_, rfl⟩
  · unfold State.commandsSound; decide
  · unfold State.tripSound; decide

/-- A draw is under way at position 3. -/
def drawingUp : State :=
  up.withSampler { up.sampler with
    state := .drawing, lastDrawn := 3, draw := some { lot := 1, point := .steepOut, pot := 2, minutes := 10 }, command := some 2
    pots := (up.sampler.pots).set 2 { state := .drawing, sample := none } }

theorem witness_StepKeepsOneDraw : drawingUp.samplerSound ∧ step drawingUp = .next drawingUp := by
  refine ⟨?_, rfl⟩
  unfold State.samplerSound; decide

/-- Two boxes wait for the turner. -/
def turnsWait : State :=
  up.withTurner { up.turner with
    queue := [{ box := 3, urgency := 2000, minute := 7, reason := .host }, { box := 1, urgency := 45, minute := 5, reason := .spread }] }

/-- The turner passes over one TENDING box while another waits for it. -/
def turnsServed : State :=
  (((up.withLots [grain 1 (.box 0), grain 2 (.box 1)]).withBox 0 { Box.reset with state := .tending, engaged := true }).withBox 1
    { Box.reset with state := .tending }).withTurner { Turner.reset with
      state := .passing, operation := some { request := { box := 0, urgency := 45, minute := 5, reason := .spread }, lot := 1 }
      queue := [{ box := 1, urgency := 1000, minute := 7, reason := .interval }] }

theorem turnsServed_turnerSound : turnsServed.turnerSound := by
  refine ⟨?_, by decide, ?_⟩
  · intro r h
    rw [show turnsServed.turner.queue = [{ box := 1, urgency := 1000, minute := 7, reason := .interval }] from rfl,
      List.mem_singleton] at h
    subst h; decide
  · intro op h; cases h; decide

theorem witness_StepKeepsTurnQueueOrdered :
    turnsWait.turnQueueSound ∧ step turnsWait = .next turnsWait ∧ turnsServed.occupancySound ∧ turnsServed.turnerSound ∧
    step turnsServed = .next turnsServed := by
  refine ⟨?_, rfl, ?_, turnsServed_turnerSound, rfl⟩
  · unfold State.turnQueueSound; decide
  · unfold State.occupancySound; decide

theorem default_inRange : Settings.default.inRange := by
  refine ⟨fun i j n h => ?_, ?_⟩
  · simp [Settings.default] at h
  · refine ⟨?_, ?_⟩
    · intro v
      refine ⟨by revert v; decide, ?_, by revert v; decide, by revert v; decide⟩
      intro y hy
      simp only [Settings.default, SteepProgram.default, Fin.getElem_fin, Vector.getElem_replicate, List.mem_cons, List.not_mem_nil,
        or_false] at hy
      rcases hy with rfl | rfl | rfl | rfl | rfl <;> simp [SteepStep.inRange]
    · unfold BoxSettings.inRange KilnProgram.inRange; decide

/-- The defaults are in use and being saved. -/
def savingDefaults : State :=
  (up.withSettings Settings.default).withPort { up.port with saving := some Settings.default }

theorem witness_StepKeepsSettingsInRange : savingDefaults.settingsSound ∧ step savingDefaults = .next savingDefaults :=
  ⟨⟨default_inRange, default_inRange, fun copy h => by cases h; exact default_inRange⟩, rfl⟩

/-! ### Frames and the port -/

theorem witness_RequestsAreReadAsWritten :
    (Instr.transferSettings 300).wf = true ∧ frameOf? (.transferSettings 300) = some (0x15, [0x01#8, 0x2C#8]) := by decide

theorem witness_FrameHasItsRequestsEffect :
    (Instr.transferSettings 300).wf = true ∧ frameOf? (.transferSettings 300) = some (0x15, [0x01#8, 0x2C#8]) ∧
    up.listens = true ∧ up.hunt = up := by decide

theorem witness_RefusedRequestsChangeNothing :
    up.accepts = true ∧ exec (.steepStart 1) up = .next (up.answer 0x1A#8 (.refused .state)) ∧
    (up.answer 0x1A#8 (.refused .state)).port.reply = some (0x1A#8, .refused .state) ∧
    frameOf? (.steepStart 1) = some (0x1A, [0x01#8]) := ⟨by decide, rfl, rfl, by decide⟩

/-- A reply is being sent. -/
def answering : State := up.answer 0x10#8 (.done [])

theorem witness_AnsweringPortDiscards :
    ((frameOf? .lotList).isSome = true ∧ answering.takesFrames = true ∧ answering.port.state = .answering) ∧
    ((frameOf? .status).isSome = true ∧ up.accepts = true) ∧
    (answering.port.rx = .hunt ∧ step answering = .next answering) := ⟨by decide, by decide, by decide, rfl⟩

/-- R162: a start byte alone leaves the receiver in LENGTH, and a request served then leaves it in HUNT. -/
theorem test_served_request_leaves_hunt :
    (up.takeByte 0xA5#8).port.rx = .length ∧
    (((up.takeByte 0xA5#8).takeRequest 0x62#8 reqStatus).port.rx, ((up.takeByte 0xA5#8).takeRequest 0x62#8 reqStatus).port.state) =
      (.hunt, .answering) := by decide

/-- The reply of a RESTART is being sent. -/
def restarting : State := answering.withPort { answering.port with restart := .replying }

/-- A frame is being gathered. -/
def gathering : State := up.withPort { up.port with rx := .payload, rxLength := 4, badFrames := 65535 }

theorem witness_PortEventsAct :
    (gathering.takesFrames = true ∧ gathering.port.state = .ready ∧ gathering.port.rx ≠ .hunt) ∧
    (up.takesFrames = true ∧ namesRequest (0x99#8).toNat = false ∧ up.port.state = .ready) ∧
    (answering.takesFrames = true ∧ answering.port.state = .answering ∧ answering.port.restart ≠ .replying) ∧
    (restarting.takesFrames = true ∧ restarting.port.state = .answering ∧ restarting.port.restart = .replying) := by decide

/-! ### Power, the plant minute, notices and alarms -/

/-- The reset input is held. -/
def heldInReset : State := up.withLines true true

/-- A RESTART waits for nothing more. -/
def drained : State := up.withPort { up.port with restart := .draining }

/-- A write of the base record is under way. -/
def writingBase : State := up.enqueueWrite (.base 5)

/-- A format erases the store, whose place 2 holds bytes still. -/
def formattingUp : State :=
  (up.withStore (Store.writeRecord [] 2 [0x01#8])).withJournal { up.journal with state := .formatting, writing := true }

theorem witness_StartsGiveStartValuesAndLossKeepsTheStores :
    up.powered = true ∧ (heldInReset.powered = true ∧ heldInReset.inReset = true) ∧
    (drained.running = true ∧ drained.port.restart = .draining ∧ drained.writePath = [] ∧ drained.journal.state ≠ .formatting) ∧
    (writingBase.powered = true ∧ writingBase.port.saving = none ∧ writingBase.journal.queue = .base 5 :: [] ∧
      writingBase.journal.writing = true) ∧
    (formattingUp.powered = true ∧ formattingUp.storeSound = true ∧ formattingUp.journal.queue = [] ∧
      formattingUp.journal.state = .formatting) := by decide

theorem witness_PlantMinuteReachesEveryReceiverOnce :
    up.running = true ∧ [Receiver.water, Receiver.turner].Nodup := by decide

/-- A lot in a steep whose level reads COVERED at 15.0 degrees. -/
def steeping : State :=
  hears (hears (up.withLots [{ grain 1 (.steep 0) with w := 3600 }]) (steepSite 0) .level 3) (steepSite 0) .tw 150

theorem witness_SteepMinuteTakesUpMoisture :
    steeping.occupancySound ∧ (∃ l ∈ steeping.lots, l.place = .steep 0 ∧ l.minSteep < 4294967295 ∧ l.w ≤ l.wcap) ∧
    (steeping.held? (steepSite 0) .tw).getD 50 = 150 ∧ steeping.level? 0 = some .covered := by
  refine ⟨?_, ?_⟩
  · unfold State.occupancySound; decide
  · decide

/-- R41: W 3600 under a ceiling of 4800 at 15.0 degrees takes ceil(1200 × 20 / 4096) = 6. -/
theorem test_uptake_in_water : ((steeping.receive (.steep 0)).lot? 1).map (·.w) = some 3606 := by decide

/-- Every notice but the state changes is disabled, and the queue is full. -/
def noticesFull : State :=
  (up.withSettings { up.settings with noticeMask := #v[false, false, true, false, false, false, false] }).withPort { up.port with
    notices := List.replicate 32 { number := 0, minute := 0, body := .stateChange .turner 1 2 } }

theorem witness_NoticesAreNumbered :
    noticesFull.settings.noticeMask[(NoticeBody.saveDone true).kind.index] = false ∧
    (up.settings.noticeMask[(NoticeBody.saveDone true).kind.index] = true ∧ up.port.notices.length < 32) ∧
    (noticesFull.settings.noticeMask[(NoticeBody.stateChange .turner 1 2).kind.index] = true ∧
      32 ≤ noticesFull.port.notices.length) := by decide

/-- One alarm entry, in a state. -/
def entryIs (x : AlarmState) : State :=
  up.withAlarms { up.alarms with
    standing := if x = .clearedUnack then [] else [{ source := .turner, kind := .turnerFault }]
    entries := [{ source := .turner, kind := .turnerFault, raised := 3, state := x }] }

/-- A full list of alarms whose entries stand in a state. -/
def alarmsFull (x : AlarmState) : State :=
  up.withAlarms { up.alarms with entries := List.replicate 48 { source := .link, kind := .shortChain, raised := 3, state := x } }

theorem witness_RaisingFollowsTheTable :
    (up.withSettings { up.settings with disabledAlarms := [(.turner, .equipment)] }).alarmEnabled .turner .equipment = false ∧
    up.alarmEnabled .turner AlarmKind.turnerFault.category = true ∧
    ((entryIs .activeAck).alarmEntry? .turner .turnerFault).map (·.state) = some .activeAck ∧
    ((entryIs .clearedUnack).alarmEntry? .turner .turnerFault).map (·.state) = some .clearedUnack ∧
    (entryIs .clearedUnack).stands .turner .turnerFault = false ∧
    ((alarmsFull .clearedUnack).alarmEntry? .turner .turnerFault = none ∧ 48 ≤ (alarmsFull .clearedUnack).alarms.entries.length ∧
      (alarmsFull .clearedUnack).alarms.entries =
        [] ++ { source := .link, kind := .shortChain, raised := 3, state := .clearedUnack } ::
          List.replicate 47 { source := .link, kind := .shortChain, raised := 3, state := .clearedUnack }) ∧
    ((alarmsFull .activeAck).alarmEntry? .turner .turnerFault = none ∧ 48 ≤ (alarmsFull .activeAck).alarms.entries.length ∧
      ∀ y ∈ (alarmsFull .activeAck).alarms.entries, y.state ≠ .clearedUnack) := by decide

theorem witness_EndingFollowsTheRule :
    up.stands .turner .turnerFault = false ∧ (entryIs .activeAck).stands .turner .turnerFault = true ∧
    (entryIs .activeUnack).stands .turner .turnerFault = true ∧
    ((entryIs .activeUnack).alarmEntry? .turner .turnerFault).map (·.state) = some .activeUnack := by decide

/-- The horn's phase has run its length. -/
def hornDue (x : HornState) : State := alarmed.withAlarms { alarmed.alarms with horn := x, hornMinutes := 10 }

/-- A condition stands that has no entry. -/
def standingOnly : State := up.withAlarms { up.alarms with standing := [⟨.turner, .turnerFault⟩] }

theorem witness_AlarmRowsAct :
    (alarmed.accepts = true ∧ up.alarms.standing = []) ∧
    (standingOnly.accepts = true ∧ standingOnly.alarms.standing = [⟨.turner, .turnerFault⟩] ∧
      standingOnly.alarmEntry? .turner .turnerFault = none ∧ standingOnly.alarms.entries.length < 48) ∧
    (alarmed.alarms.entries.length = 1 ∧ (alarmed.alarms.entries.all fun e => e.names .turner .turnerFault) = true ∧
      up.alarmEntry? .turner .turnerFault = none ∧ Source.ofCode? 0 = none ∧ AlarmKind.ofCode? 0 = none) ∧
    ((hornDue .on).running = true ∧ (hornDue .on).alarms.hornLength ≤ (hornDue .on).alarms.hornMinutes ∧
      (hornDue .on).alarms.horn = .on ∧ (hornDue .on).settings.horn.hoff ≠ 0) ∧
    ((hornDue .off).alarms.horn = .off ∧ (hornDue .off).alarms.hornLength ≤ (hornDue .off).alarms.hornMinutes) ∧
    up.alarms.horn = .idle ∧ (alarmed.running = true ∧ alarmed.alarms.horn ≠ .idle ∧
      alarmed.alarms.hornMinutes + 1 < alarmed.alarms.hornLength) ∧
    (hornDue .on).alarms.hornLength ≤ (hornDue .on).alarms.hornMinutes + 1 := by decide

/-! ### Requests that ask or set -/

theorem witness_QueriesAnswerWithoutChange :
    (twoLots.accepts = true ∧ twoLots.lot? 1 = some (grain 1 (.steep 0))) ∧ twoLots.journal.state = .running ∧
    twoLots.journal.oldest ≤ 1 ∧ twoLots.lot? 3 = none ∧ (twoLots.occupant? (.kiln 0)).isSome = true := by decide

theorem witness_QueriesAnswerWithoutChange_lists :
    twoLots.lotsOrdered ∧ twoLots.lots.Pairwise (fun a b => a.number < b.number) ∧
    twoLots.journalSound ∧ 0 = twoLots.journal.next - twoLots.journal.oldest ∧
    ([] : List (List Byte)).length = min 7 (twoLots.journal.oldest + (0 - twoLots.pathNumbers.length) - 1) :=
  ⟨twoLots_lotsOrdered, twoLots_lotsOrdered, ⟨by decide, by decide, 0, by decide, by decide⟩, by decide, by decide⟩

theorem witness_SmallSettingsAreClampedAndStored : up.accepts = true ∧ (480 : Nat) = max 10 (min 480 900) := by decide

/-- A steep in a state. -/
def steepIs (x : SteepState) : State := up.withSteep 0 { Steep.reset with state := x }

theorem witness_ProgramsAndGroupsAreStored :
    up.accepts = true ∧ settled 10 1440 (some 5) 0 = 10 ∧ settled 100 65000 (some 65535) 0 = 65000 ∧
    settledTemp 400 900 (some (-5)) 640 = 400 ∧ settledTemp 400 900 none 640 = 640 ∧
    (∀ f ∈ ([{ kind := 1, minutes := 5, litres := 90, flag := true }] : List StepFields), f.kind = 1 ∨ f.kind = 2) ∧
    (up.steep 0).state = .empty ∧ ((steepIs .filling).accepts = true ∧ ((steepIs .filling).steep 0).state ≠ .empty ∧
      ((steepIs .filling).steep 0).state ≠ .charged ∧ ((steepIs .filling).steep 0).state ≠ .done) ∧ (∀ z ∈ [2, 12], 1 ≤ z ∧ z ≤ 12) ∧ 12 < (List.replicate 13 1).length ∧
    (up.kiln 0).phase = .empty := by decide

/-! ### Lots and transfers -/

theorem witness_LotInMakesTheLot :
    up.accepts = true ∧ up.isFree (.steep 0) = true ∧ up.lots.length < 16 ∧ up.lot? 7 = none ∧ 1 ≤ up.roomOffered := by decide

/-- The fields of a restored lot. -/
def restored (lot place state : Nat) : RestoreFields :=
  { lot := lot, place := place, stage := 3, state := state, massIn := 30000, w := 4600, wcap := 4800, target := 4400, minSteep := 900
    minBox := 6000, turnCount := 9, lastTurn := none, sinceTurn := none, aborted := 0, spray := 0, wload := none, d0 := none
    q := none, breakMinute := none, forced := none, peatTarget := 60, peatGiven := 90, shortfall := none, steepOut := some 4
    kilnOut := none, restored := false }

theorem witness_RestoreLotChecksInOrder :
    up.accepts = true ∧ (Stage.ofCode? (restored 7 21 4).stage).isSome = true ∧ (restored 7 21 4).lot = 7 ∧ Place.ofCode? 21 = some (.vessel (.kiln 0)) ∧ up.isFree (.kiln 0) = true ∧
    twoLots.isFree (.box 0) = false ∧ twoLots.isFree (.box 1) = true ∧ (twoLots.lot? 2).isSome = true ∧ up.lot? 7 = none := by
  decide

theorem witness_RestoredLotTakesItsPlace :
    up.accepts = true ∧ Stage.ofCode? 4 = none ∧ (Stage.ofCode? 1).isSome = true ∧ up.lots.length < 16 ∧ up.lot? 7 = none ∧
    (up.isFree (.steep 0) = true ∧ State.restorable (.steep 0) 7) ∧ (up.isFree (.box 0) = true ∧ State.restorable (.box 0) 4) ∧
    (up.isFree (.kiln 1) = true ∧ State.restorable (.kiln 1) 3) := by
  unfold State.restorable; decide

/-- A lot in a place, its block in the state given. -/
def inSteep (x : SteepState) : State := (up.withLots [grain 1 (.steep 0)]).withSteep 0 { Steep.reset with state := x }
def inBox (x : BoxState) : State :=
  (up.withLots [{ grain 1 (.box 0) with minBox := 6000, sinceTurn := some 300 }]).withBox 0 { Box.reset with state := x, fan := 40 }
def inKiln (x : KilnPhase) : State :=
  (up.withLots [{ grain 1 (.kiln 0) with wload := some 4100, q := some 900, d0 := some 100 }]).withKiln 0 { Kiln.reset with
    phase := x, freeDryMinutes := 1300, breakCount := 20, holdMinutes := 200, ramp := 640, setpoint := 640, gate := kilnGate x }

/-- The state with its lot's transfer, and the sampler busy. -/
def transferring (s : State) (t : Transfer) : State :=
  (s.withLots (s.lots.map fun l => { l with transfer := some t })).withJournal { s.journal with reserved := t.reserved }
def samplerBusy (s : State) : State := s.withSampler { s.sampler with state := .clearing }

/-- A finished steep in PASS mode, its bed COVERED, with every pot as given. -/
def passing (x : Pot) : State :=
  let s := hears (inSteep .done) (steepSite 0) .level 3
  (s.withSettings { s.settings with samplerMode := .pass }).withSampler { s.sampler with pots := Vector.replicate 24 x }

theorem witness_TransferRequestsStart :
    (inBox .ready).accepts = true ∧ (inBox .ready).isFree (.kiln 1) = true ∧ ((inBox .ready).lot? 1).any (·.transfer.isNone) = true ∧
    ((inBox .ready).box 0).state = .ready ∧ (inBox .ready).engagedOn 0 = false := by decide

/-- A finished kiln in PASS mode, its bed not EMPTY, with every pot as given. -/
def passingKiln (x : Pot) : State :=
  let s := hears (inKiln .ready) (kilnSite 0) .kilnBed 3
  (s.withSettings { s.settings with samplerMode := .pass }).withSampler { s.sampler with pots := Vector.replicate 24 x }

def readyPot : Pot := { state := .ready, sample := none }

theorem sampled_steep {s : State} (hm : 2 ≤ s.roomOffered) (hb : s.isFree (.box 3) = true) :
    s.sampled (grain 1 (.steep 0)) (.vessel (.box 3)) .steepOut 2 none true :=
  ⟨rfl, hm, .inl ⟨0, 3, rfl, rfl, rfl, rfl, rfl, hb, .inl rfl⟩⟩

theorem sampled_kiln {s : State} {l : Lot} (hl : l.place = .kiln 0) (ht : l.transfer = none) (hm : 3 ≤ s.roomOffered) :
    s.sampled l .out .kilnOut 3 (some 26000) true :=
  ⟨ht, hm, .inr ⟨0, 26000, hl, rfl, rfl, rfl, rfl, .inl rfl⟩⟩

theorem witness_TransferRequestsStart_sampled :
    (samplerBusy (inSteep .done)).sampled (grain 1 (.steep 0)) (.vessel (.box 3)) .steepOut 2 none true ∧
    (passing readyPot).sampled (grain 1 (.steep 0)) (.vessel (.box 3)) .steepOut 2 none true ∧
    (∀ l, (samplerBusy (inKiln .ready)).lot? 1 = some l → (samplerBusy (inKiln .ready)).sampled l .out .kilnOut 3 (some 26000) true) ∧
    (∀ l, (passingKiln readyPot).lot? 1 = some l → (passingKiln readyPot).sampled l .out .kilnOut 3 (some 26000) true) :=
  ⟨sampled_steep (by decide) (by decide), sampled_steep (by decide) (by decide),
    fun _ h => sampled_kiln (by cases h; rfl) (by cases h; rfl) (by decide),
    fun _ h => sampled_kiln (by cases h; rfl) (by cases h; rfl) (by decide)⟩

theorem witness_TransferRequestsStart_modes :
    ((samplerBusy (inSteep .done)).accepts = true ∧ (samplerBusy (inSteep .done)).lot? 1 = some (grain 1 (.steep 0)) ∧
      (samplerBusy (inSteep .done)).settings.samplerMode = .hold ∧ (samplerBusy (inSteep .done)).sampler.state ≠ .idle) ∧
    ((samplerBusy (inKiln .ready)).accepts = true ∧ ((samplerBusy (inKiln .ready)).lot? 1).isSome = true ∧
      (∀ p, ((inSteep .done).pot p).state ≠ .ready)) := by decide

theorem witness_TransferRequestsStart_draws :
    ((passing readyPot).accepts = true ∧ (passing readyPot).lot? 1 = some (grain 1 (.steep 0)) ∧
      (passing readyPot).sampler.state = .idle ∧ (passing readyPot).sampler.pending = [] ∧ (passing readyPot).nextReady 0 ∧
      (passing readyPot).settings.samplerMode = .pass ∧ (passing readyPot).bedEmpty (.steep 0) = false) ∧
    ((passingKiln readyPot).accepts = true ∧ (passingKiln readyPot).nextReady 0 ∧ (passingKiln readyPot).bedEmpty (.kiln 0) = false) := by
  unfold State.nextReady; decide

theorem witness_TransferRequestsStart_missed :
    (samplerBusy (passingKiln readyPot)).sampler.state ≠ .idle ∧ (passingKiln Pot.reset).sampler.state = .idle ∧
    (passingKiln Pot.reset).sampler.pending = [] ∧ ∀ p, ((passingKiln Pot.reset).pot p).state ≠ .ready := by
  decide

/-- A steep's transfer waits for its draw. -/
def pendingOut : State :=
  (transferring (inSteep .done) (moving (.vessel (.box 3)) false 2)).withSampler { up.sampler with
    pending := [{ lot := 1, point := .steepOut }] }

/-- A box's lot flows to a kiln. -/
def flowingToKiln : State :=
  (transferring (inBox .transferOut) (moving (.vessel (.kiln 0)) true 0)).withKiln 0 { Kiln.reset with
    phase := .loading, gate := .receive }

theorem witness_TransfersAbortOrRunLate :
    (pendingOut.accepts = true ∧ ((pendingOut.lot? 1).bind (·.transfer)) = some (moving (.vessel (.box 3)) false 2)) ∧
    (flowingToKiln.accepts = true ∧ flowingToKiln.occupancySound ∧
      (flowingToKiln.lot? 1).map (·.transfer) = some (some (moving (.vessel (.kiln 0)) true 0)) ∧
      flowingToKiln.bedLoaded (.kiln 0) = false ∧ flowingToKiln.sampler.draw = none ∧
      (flowingToKiln.kiln 0).phase ≠ .tripped) ∧
    (flowingToKiln.running = true ∧ (moving (.vessel (.kiln 0)) true 0).timeout = some 90 ∧
      90 ≤ (moving (.vessel (.kiln 0)) true 0).minutes) := by
  unfold State.occupancySound; decide

/-- A lot flows from a steep or from a kiln while its draw is under way. -/
def flowingDrawn (s : State) (p : Point) (t : Transfer) : State :=
  (transferring s t).withSampler { up.sampler with
    state := .drawing, draw := some { lot := 1, point := p, pot := 5, minutes := 3 }, command := some 5 }
def steepDrawn : State := flowingDrawn (inSteep .transferOut) .steepOut (moving (.vessel (.box 3)) true 2)
def kilnDrawn : State := flowingDrawn (inKiln .unloading) .kilnOut (moving .out true 3)

theorem witness_TransfersAbortOrRunLate_flowing :
    (State.onPath (.box 0) (.vessel (.kiln 0)) ∧ State.onPath (.steep 0) (.vessel (.box 3)) ∧ State.onPath (.kiln 0) .out) ∧
    (steepDrawn.accepts = true ∧ steepDrawn.occupancySound ∧
      (steepDrawn.lot? 1).bind (·.transfer) = some (moving (.vessel (.box 3)) true 2) ∧ steepDrawn.bedLoaded (.box 3) = false ∧
      steepDrawn.sampler.draw.map (fun d => (d.lot, d.point)) = some (1, .steepOut) ∧ 2 ≤ steepDrawn.journal.reserved) ∧
    (kilnDrawn.accepts = true ∧ kilnDrawn.occupancySound ∧ (kilnDrawn.lot? 1).bind (·.transfer) = some (moving .out true 3) ∧
      kilnDrawn.sampler.draw.map (fun d => (d.lot, d.point)) = some (1, .kilnOut) ∧ 3 ≤ kilnDrawn.journal.reserved) ∧
    ((hears flowingToKiln (kilnSite 0) .kilnBed 3).bedLoaded (.kiln 0) = true ∧
      (hears flowingToKiln (kilnSite 0) .kilnBed 3).occupancySound ∧
      (hears steepDrawn (boxSite 3) .boxBed 3).bedLoaded (.box 3) = true) := by
  refine ⟨⟨.inr (.inl ⟨0, 0, rfl, rfl⟩), .inl ⟨0, 3, rfl, rfl⟩, .inr (.inr ⟨0, rfl, rfl⟩)⟩, ?_⟩
  unfold State.occupancySound; decide

/-- The source of a flowing transfer reads EMPTY. -/
def boxEmptied : State := hears flowingToKiln (boxSite 0) .boxBed 1
def steepEmptied : State :=
  hears (transferring (inSteep .transferOut) (moving (.vessel (.box 3)) true 1)) (steepSite 0) .level 1
def kilnEmptied : State := hears (transferring (inKiln .unloading) (moving .out true 2)) (kilnSite 0) .kilnBed 1

theorem witness_TransferCompletionMovesTheLot :
    (boxEmptied.running = true ∧ boxEmptied.occupancySound ∧ (boxEmptied.lot? 1).bind (·.transfer) = some (moving (.vessel (.kiln 0)) true 0) ∧
      boxEmptied.bedEmpty (.box 0) = true ∧ (boxEmptied.kiln 0).phase = .loading) ∧
    (steepEmptied.running = true ∧ (steepEmptied.lot? 1).bind (·.transfer) = some (moving (.vessel (.box 3)) true 1) ∧
      (moving (.vessel (.box 3)) true 1).resolved = true ∧ steepEmptied.bedEmpty (.steep 0) = true) := by
  unfold State.occupancySound; decide

/-- The same with the kiln TRIPPED while it loads, or while it unloads. -/
def trippedLoading : State := boxEmptied.withKiln 0 { Kiln.reset with phase := .tripped, remembered := some .loading, gate := .receive }
def trippedUnloading : State :=
  kilnEmptied.withKiln 0 { Kiln.reset with phase := .tripped, remembered := some .unloading, gate := .discharge }

theorem witness_completions_of_a_tripped_kiln :
    (trippedLoading.running = true ∧ trippedLoading.occupancySound ∧
      (trippedLoading.lot? 1).bind (·.transfer) = some (moving (.vessel (.kiln 0)) true 0) ∧
      trippedLoading.bedEmpty (.box 0) = true ∧ (trippedLoading.kiln 0).phase = .tripped) ∧
    (trippedUnloading.running = true ∧ (trippedUnloading.lot? 1).bind (·.transfer) = some (moving .out true 2) ∧
      trippedUnloading.bedEmpty (.kiln 0) = true ∧ (trippedUnloading.kiln 0).remembered = some .unloading) := by
  unfold State.occupancySound; decide

theorem witness_LotOutRetiresTheLot :
    kilnEmptied.running = true ∧ (kilnEmptied.lot? 1).bind (·.transfer) = some (moving .out true 2) ∧
    (moving .out true 2).outMass = some 26000 ∧ kilnEmptied.bedEmpty (.kiln 0) = true ∧
    (kilnEmptied.kiln 0).phase = .unloading := by decide

/-! ### Steeping and the water rounds -/

/-- A steep with its readings fresh, running a program of one immersion or of rests. -/
def steepReady (x : SteepState) (steps : List SteepStep) (level : Int) : State :=
  let s := hears (hears (inSteep x) (steepSite 0) .delivered 100) (steepSite 0) .level level
  s.storeProgram 0 { steps := steps, earlyFinish := false, endWithRest := true }

/-- A halted steep that held a state. -/
def haltedSteep (held : SteepState) (owed : Option Nat) : State :=
  (steepReady .halted [.rest 20 true] 1).withSteep 0 { Steep.reset with state := .halted, held := some held, remainder := owed }

/-- A fill that waits, or runs from the baseline 100. -/
def filling (stage : FillStage) (delivered : Bool) (level : Int) : State :=
  (steepReady .filling [.immerse 30 500 true] level).withSteep 0 { Steep.reset with
    state := .filling, stepNumber := some 1, fillStage := stage, fillLitres := 500, fillBaseline := some 100, fillMinutes := 61
    delivered := delivered, timeoutInForce := 60, valveOpen := !delivered }

theorem witness_SteepRequestsAct :
    ((steepReady .charged [.rest 20 true] 1).accepts = true ∧
      ((steepReady .charged [.rest 20 true] 1).steep 0).state = .charged ∧
      ((steepReady .charged [.rest 20 true] 1).steepProgram 0).steps = .rest 20 true :: []) ∧
    (((steepReady .charged [.immerse 30 500 true] 1).steepProgram 0).steps = .immerse 30 500 true :: [] ∧
      (steepReady .charged [.immerse 30 500 true] 1).steepStale 0 = false ∧
      (steepReady .charged [.immerse 30 500 true] 1).water.started = false) ∧
    ((inSteep .immersed).steep 0).state = .immersed ∧
    (((filling .queued false 1).steep 0).state = .filling ∧ ((filling .queued false 1).steep 0).fillStage = .queued) ∧
    ((haltedSteep .airRest none).steep 0).held = some .airRest ∧
    (((haltedSteep .filling (some 300)).steep 0).remainder = some 300 ∧ (haltedSteep .filling (some 300)).steepStale 0 = false ∧
      (haltedSteep .filling (some 300)).water.started = false) := by decide

/-- An open round with one grant of so many litres booked, of an allowance of 20000. -/
def openRound (s : State) (booked : Nat) : State :=
  s.withWater { s.water with started := true, closed := false, grants := 1, booked := booked, allowance := 20000 }

theorem witness_SteepRequestsAct_fills :
    ((openRound (steepReady .charged [.immerse 30 500 true] 1) 100).steepStale 0 = false ∧
      (openRound (steepReady .charged [.immerse 30 500 true] 1) 100).water.booked + 500 ≤ 20000 ∧
      20000 < (openRound (steepReady .charged [.immerse 30 500 true] 1) 19600).water.booked + 500) ∧
    (((steepReady .charged [.immerse 30 500 true] 1).withLink Link.reset).steepStale 0 = true ∧
      ((haltedSteep .filling (some 300)).withLink Link.reset).steepStale 0 = true) ∧
    (((filling .running false 1).steep 0).fillStage = .running ∧ ((filling .running false 1).accepts = true)) ∧
    (((haltedSteep .filling (some 0)).steep 0).remainder = some 0 ∧ (haltedSteep .filling (some 0)).steepStale 0 = false) := by decide

/-- A steep whose running step, of the two given, has run its minutes. -/
def stepOver (x : SteepState) (steps : List SteepStep) (skip : Bool) : State :=
  (steepReady x steps 3).withSteep 0 { Steep.reset with state := x, stepNumber := some 1, stepMinutes := 30, skip := skip }

theorem witness_SteepEventsAct :
    ((stepOver .immersed [.immerse 30 500 true] false).running = true ∧
      (stepOver .immersed [.immerse 30 500 true] false).earlyFinish 0 = false ∧
      (stepOver .immersed [.immerse 30 500 true] false).stepMinutesReached 0 = true) ∧
    (((stepOver .airRest [.rest 20 true] false).steep 0).stepNumber = some 1 ∧
      (stepOver .airRest [.rest 20 true] false).stepMinutesReached 0 = true ∧
      ((stepOver .airRest [.rest 20 true] false).steepProgram 0).steps[1]? = none ∧
      ((stepOver .airRest [.rest 20 true, .rest 40 false] false).steepProgram 0).steps[1]? = some (.rest 40 false)) ∧
    (((filling .running false 1).steep 0).timeoutInForce ≤ ((filling .running false 1).steep 0).fillMinutes ∧
      ((filling .running false 1).imageEntry? (steepSite 0) .delivered).isSome = true ∧
      ((filling .running false 1).steep 0).fillLitres ≤ (((150 : Int) - 100) % 32768).toNat * 10 ∧
      (filling .running false 1).level? 0 ≠ some .covered ∧ (filling .running false 3).level? 0 = some .covered) ∧
    (((filling .running true 1).imageEntry? (steepSite 0) .level).isSome = true ∧ ((filling .running true 1).steep 0).delivered = true) ∧
    (((stepOver .draining [.immerse 30 500 true, .rest 40 false] true).imageEntry? (steepSite 0) .level).isSome = true ∧
      ((stepOver .draining [.immerse 30 500 true, .rest 40 false] true).steep 0).skip = true ∧
      ((stepOver .draining [.immerse 30 500 true, .rest 40 false] false).steep 0).state = .draining) := by decide

theorem witness_SteepEventsAct_next_fill :
    (((stepOver .airRest [.rest 20 true, .immerse 30 500 true] false).steepProgram 0).steps[1]? = some (.immerse 30 500 true) ∧
      (stepOver .airRest [.rest 20 true, .immerse 30 500 true] false).steepStale 0 = false ∧
      (openRound (stepOver .airRest [.rest 20 true, .immerse 30 500 true] false) 100).stepMinutesReached 0 = true) ∧
    (((stepOver .draining [.immerse 30 500 true, .immerse 40 700 true] false).steepProgram 0).steps[1]? = some (.immerse 40 700 true) ∧
      (stepOver .draining [.immerse 30 500 true, .immerse 40 700 true] false).isFresh (steepSite 0) .delivered = true ∧
      ((stepOver .draining [.immerse 30 500 true] false).steepProgram 0).steps[1]? = none) := by decide

/-- The same running fill under a longer timeout. -/
def youngFill : State :=
  (filling .running false 1).withSteep 0 { (filling .running false 1).steep 0 with timeoutInForce := 90 }

theorem steepReady_occupancySound (x : SteepState) (steps : List SteepStep) (level : Int) :
    (steepReady x steps level).occupancySound := by
  show ([grain 1 (.steep 0)].map (·.number)).Nodup ∧ ([grain 1 (.steep 0)].flatMap Lot.occupies).Nodup
  decide

theorem witness_SteepMinuteTakesUpMoisture_states :
    up.lotAt? (.steep 0) = none ∧ ((stepOver .immersed [.immerse 30 500 true] false).lotAt? (.steep 0)).isSome = true ∧
    (((filling .running false 1).steep 0).timeoutInForce ≤ ((filling .running false 1).steep 0).fillMinutes + 1 ∧
      ((filling .running false 1).steep 0).state = .filling) ∧
    ((youngFill.steep 0).fillMinutes + 1 < (youngFill.steep 0).timeoutInForce ∧ youngFill.steepStale 0 = false ∧
      (youngFill.withLink Link.reset).steepStale 0 = true ∧ (youngFill.withLink Link.reset).level? 0 = none) ∧
    (((filling .queued false 1).steep 0).fillStage = .queued ∧ (filling .queued false 1).steepStale 0 = false ∧
      ((filling .queued false 1).withLink Link.reset).steepStale 0 = true) ∧
    ((stepOver .immersed [.immerse 30 500 true] false).currentStep? 0 = some (.immerse 30 500 true) ∧
      (stepOver .immersed [.immerse 90 500 true] false).currentStep? 0 = some (.immerse 90 500 true) ∧
      ((stepOver .immersed [.immerse 90 500 true] false).steep 0).stepMinutes = 30 ∧
      (stepOver .immersed [.immerse 90 500 true] false).earlyFinish 0 = false) ∧
    ((stepOver .airRest [.rest 20 true] false).currentStep? 0 = some (.rest 20 true) ∧
      (stepOver .airRest [.rest 40 true] false).currentStep? 0 = some (.rest 40 true) ∧
      (stepOver .airRest [.rest 20 true] false).running = true) ∧
    ((steepReady .done [] 2).steep 0).state = .done := by decide

/-- A round is due with three fills waiting, the last of which does not fit. -/
def roundWaits : State :=
  let s := filling .queued false 1
  s.withWater { s.water with
    counted := 1
    queue := [{ steep := 0, litres := 30000, minute := 1 }, { steep := 4, litres := 9000, minute := 1 },
      { steep := 2, litres := 2000, minute := 2 }] }

/-- A round that has begun, so many minutes of its period counted. -/
def roundRuns (counted : Nat) : State := roundWaits.withWater { roundWaits.water with started := true, period := 15, counted := counted }

theorem witness_RoundStartGrantsFromTheHead :
    ((roundRuns 13).running = true ∧ (roundRuns 13).water.started = true ∧
      (roundRuns 13).water.counted + 1 < (roundRuns 13).water.period ∧
      (roundRuns 14).water.period ≤ (roundRuns 14).water.counted + 1) ∧
    roundWaits.running = true ∧ roundWaits.water.started = false ∧ 1 ≤ roundWaits.water.counted ∧
    (roundWaits.water.queue.map (·.steep)).Nodup := by decide

/-! ### Germination beds and the turner -/

theorem witness_BoxRowsAct :
    ((inBox .tending).accepts = true ∧ ((inBox .tending).box 0).state = .tending ∧ ((inBox .tending).box 0).engaged = false) ∧
    (((inBox .halted).box 0).state = .halted ∧ ((inBox .halted).lotAt? (.box 0)).isSome = true) ∧
    (((inBox .tending).lotAt? (.box 0)).any fun l => decide (((inBox .tending).boxSettings 0).target ≤ l.minBox)) = true ∧
    (inBox .tending).turner.knownPosition = none := by decide

/-- A box in a state whose first zones read the values given. -/
def bed (x : BoxState) (values : List Int) : State :=
  (inBox x).withBox 0 { (inBox x).box 0 with zones := Vector.ofFn fun z => { value := values[z.val]?, age := 3, fed := false } }

/-- A TENDING box short of its target, its lot last turned so many minutes ago, in front of a turner that passes elsewhere. -/
def tended (since : Nat) (values : List Int) : State :=
  ((bed .tending values).withLots [{ grain 1 (.box 0) with minBox := 100, sinceTurn := some since }]).withTurner { Turner.reset with
    state := .passing }

theorem witness_BoxMinuteEvaluatesTheBed :
    ((bed .ready [174, 170, 181, 171]).box 0).state = .ready ∧
    (bed .ready [174, 170, 181, 171]).usableValues 0 = [174, 170, 181, 171] ∧
    (∀ y ∈ [174, 170, 181, 171], (170 : Int) ≤ y ∧ y ≤ 181) ∧ ((bed .ready [174, 170]).usableValues 0).length < 4 ∧
    (inBox .tending).occupancySound ∧ (∃ l ∈ (inBox .tending).lots, l.place = .box 0 ∧ l.minBox < 4294967295 ∧
      ((inBox .tending).boxSettings 0).target ≤ l.minBox + 1) := by
  unfold State.occupancySound; decide

theorem witness_BoxMinuteDecidesTheTurn :
    (tended 720 [150, 150, 150, 150]).occupancySound ∧
    (∃ l ∈ (tended 720 [150, 150, 150, 150]).lots, l.place = .box 0 ∧ l.minBox + 1 < ((tended 720 []).boxSettings 0).target) ∧
    ((tended 720 []).box 0).state = .tending ∧ ((tended 720 []).boxSettings 0).target < 4294967296 ∧
    (tended 720 []).turner.state ≠ .idle ∧ ((tended 720 [150, 150, 150, 150]).usableValues 0).length = 4 ∧
    ((tended 720 []).usableValues 0).length < 4 ∧ ((tended 720 []).box 0).engaged = false ∧ (tended 720 []).queuedTurn? 0 = none := by
  unfold State.occupancySound; decide

/-- R61: a bed at its maximum interval of 480 minutes asks with urgency 1000; one just turned asks for nothing. -/
theorem test_turn_need :
    ((tended 479 [150, 150, 150, 150]).receive (.box 0)).queuedTurn? 0 =
      some { box := 0, urgency := 1000, minute := 0, reason := .interval } ∧
    ((tended 5 [150, 150, 150, 150]).receive (.box 0)).queuedTurn? 0 = none := by decide

/-- R64's first row: a mean of 174 against Tset 160 with Kf 10 and Fbase 50 asks for a fan of 64. -/
theorem test_fan_of_a_warm_bed : (((bed .ready [174, 170, 181, 171]).receive (.box 0)).box 0).fan = 64 := by decide

/-- The turner at position 2, in a state, on the box given. -/
def turner (x : TurnerState) (on : Option BoxId) : State :=
  (inBox .tending).withTurner { Turner.reset with
    state := x, knownPosition := some 2, passMinutes := 40, passLength := 40, travelMinutes := 9, travelLimit := 9
    sprayInForce := 50, target := 1, action := .pass
    operation := on.map fun b => { request := { box := b, urgency := 45, minute := 5, reason := .spread }, lot := 1 } }
def turnQueued (s : State) : State :=
  s.withTurner { s.turner with queue := [{ box := 0, urgency := 45, minute := 5, reason := .spread }] }

/-- Two boxes queued before an idle turner that knows where it stands; the lot is in the first of them. -/
def twoQueued : State :=
  (turner .idle none).withTurner { (turner .idle none).turner with
    queue := [{ box := 1, urgency := 45, minute := 5, reason := .hot }, { box := 0, urgency := 45, minute := 5, reason := .spread }] }

theorem witness_BoxRowsAct_head :
    twoQueued.turner.state = .idle ∧ twoQueued.turner.knownPosition = some 2 ∧ twoQueued.queuedTurn? 1 ≠ none ∧
    (queueRemove 1 twoQueued.turner.queue).map (·.box) = [0] ∧ (twoQueued.lotAt? (.box 0)).isSome = true := by decide

theorem witness_TurnRequestsAct :
    ((turnQueued (turner .travelling (some 4))).accepts = true ∧
      ((turnQueued (turner .travelling (some 4))).box 0).state = .tending ∧
      (turnQueued (turner .travelling (some 4))).engagedOn 0 = false ∧
      ((turnQueued (turner .travelling (some 4))).queuedTurn? 0).isSome = true) ∧
    ((turner .idle none).turner.queue = [] ∧ (turner .idle none).turner.knownPosition = some 2 ∧
      ((turner .idle none).lotAt? (.box 0)).isSome = true) ∧
    ((turner .passing (some 0)).turner.operation.any (fun op => op.request.box == 0)) = true ∧
    (turner .travelling (some 0)).turner.knownPosition = some 2 ∧
    ((turner .travelling (some 0)).withTurner { (turner .travelling (some 0)).turner with knownPosition := none }).accepts = true ∧
    ((turnQueued (turner .passing (some 4))).turner.operation.any (fun op => op.request.box == 4) = true ∧
      ((turnQueued (turner .passing (some 4))).lotAt? (.box 0)).isSome = true) := by decide

/-- The turner's readings are in the image. -/
def turnerHeard (s : State) (motion : Int) : State := hears (hears s .turner .position 1) .turner .motion motion

/-- A turner at work that hears its readings, and one that does not; the second of its minutes ends what it does. -/
theorem witness_TurnerEventsAct_minute :
    ((turnerHeard (turner .travelling (some 0)) 2).isFresh .turner .position = true ∧
      (turnerHeard (turner .travelling (some 0)) 2).isFresh .turner .motion = true ∧
      (turner .travelling (some 0)).turner.travelLimit ≤ (turner .travelling (some 0)).turner.travelMinutes + 1 ∧
      (turner .passing (some 0)).turner.passLength ≤ (turner .passing (some 0)).turner.passMinutes + 1 ∧
      (turner .passing (some 0)).turner.operation ≠ none) ∧
    ((turner .passing (some 0)).isFresh .turner .position = false ∧ (turner .passing (some 0)).turner.state ≠ .fault ∧
      (turner .passing (some 0)).turner.operation.isSome = true ∧ ((turner .passing (some 0)).lot? 1).isSome = true) ∧
    ((turner .idle none).turner.state = .idle ∧ (turner .idle none).turner.knownPosition ≠ none ∧
      up.turner.state = .idle ∧ up.turner.knownPosition = none) ∧
    ((turnerHeard (turner .fault none) 4).turner.state = .fault ∧
      (turnerHeard (turner .fault none) 4).motion? = some .fault) := by decide

/-- R80: an IDLE turner that has a known position and hears nothing is in FAULT at its next minute, and its cause is STALE. -/
theorem test_idle_turner_goes_stale :
    (((turner .idle none).receive .turner).turner.state, ((turner .idle none).receive .turner).turner.cause) =
      (.fault, some .stale) := by decide

theorem witness_TurnerEventsAct :
    ((turnQueued (turner .idle none)).running = true ∧ (turnQueued (turner .idle none)).turner.queue.length = 1 ∧
      ((turnQueued (turner .idle none)).lotAt? (.box 0)).isSome = true) ∧
    (((turnerHeard (turner .travelling (some 0)) 2).imageEntry? .turner .position).isSome = true ∧
      ((turnerHeard (turner .travelling (some 0)) 2).imageEntry? .turner .motion).isSome = true ∧
      (turner .travelling (some 0)).turner.target = 1) ∧
    ((turner .passing (some 0)).turner.passLength ≤ (turner .passing (some 0)).turner.passMinutes ∧
      ((turner .passing (some 0)).lot? 1).isSome = true) ∧
    (turner .travelling (some 0)).turner.travelLimit ≤ (turner .travelling (some 0)).turner.travelMinutes ∧
    ((turner .fault none).turner.state = .fault ∧ (turnerHeard (turner .fault none) 1).isFresh .turner .position = true ∧
      (turnerHeard (turner .fault none) 1).isFresh .turner .motion = true ∧
      (turnerHeard (turner .fault none) 1).motion? ≠ some .fault) := by decide

/-! ### Kilns and the peat fire -/

/-- A kiln's air readings are in the image. -/
def kilnHeard (s : State) (ton toff : Int) : State := hears (hears s (kilnSite 0) .ton ton) (kilnSite 0) .toff toff

/-- A tripped kiln that remembers FREE-DRY. -/
def tripped : State :=
  kilnHeard ((inKiln .freeDry).withKiln 0 { Kiln.reset with phase := .tripped, remembered := some .freeDry }) 800 700

theorem witness_KilnRequestsAct :
    ((inKiln .freeDry).accepts = true ∧ ((inKiln .freeDry).kiln 0).phase = .freeDry ∧
      ((inKiln .freeDry).lotAt? (.kiln 0)).isSome = true) ∧
    ((inKiln .curingHold).kiln 0).phase = .curingHold ∧
    ((tripped.kiln 0).phase = .tripped ∧ (tripped.kiln 0).remembered = some .freeDry ∧
      tripped.fresh? (kilnSite 0) .ton = some 800 ∧ (800 : Int) ≤ ((tripped.kilnProgram 0).tmax : Int) - 50) := by decide

/-- A dry lot in CURING/HOLD. -/
def cured : State := (inKiln .curingHold).withLots [{ grain 1 (.kiln 0) with w := 440 }]

theorem witness_KilnEventsAct :
    ((inKiln .freeDry).running = true ∧ ((inKiln .freeDry).kilnProgram 0).nb ≤ ((inKiln .freeDry).kiln 0).breakCount) ∧
    (((inKiln .freeDry).kiln 0).breakLate = false ∧
      ((inKiln .freeDry).kilnProgram 0).maxFreeDry ≤ ((inKiln .freeDry).kiln 0).freeDryMinutes) ∧
    ((cured.kilnProgram 0).hc ≤ (cured.kiln 0).holdMinutes ∧
      (cured.lotAt? (.kiln 0)).any (fun l => decide (l.w ≤ (cured.kilnProgram 0).wfinal)) = true) ∧
    (((inKiln .freeDry).withKiln 0 { Kiln.reset with phase := .freeDry, blindMinutes := 11 }).kiln 0).blindMinutes = 11 ∧
    ((kilnHeard (inKiln .freeDry) 600 500).imageEntry? (kilnSite 0) .ton).isSome = true ∧
    (((inKiln .freeDry).kilnProgram 0).tmax : Int) < 951 ∧
    ((kilnHeard (inKiln .curingRamp) 600 500).fresh? (kilnSite 0) .ton = some 600 ∧
      (kilnHeard (inKiln .curingRamp) 600 500).fresh? (kilnSite 0) .toff = some 500 ∧
      ((inKiln .curingRamp).kiln 0).ramp < ((inKiln .curingRamp).kilnProgram 0).tc ∧
      (kilnHeard (inKiln .curingRamp) 600 500).burner? 0 ≠ some .lockout ∧
      (hears (kilnHeard (inKiln .curingRamp) 600 500) (kilnSite 0) .burner 3).burner? 0 = some .lockout) ∧
    (((kilnHeard cured 600 500).receive (.kiln 0)).lotAt? (.kiln 0)).isSome = true ∧
    (inKiln .cooling).fresh? (kilnSite 0) .ton = none := by decide

/-- A lot in FREE-DRY whose first drop is still to be captured. -/
def newDry : State :=
  ((inKiln .freeDry).withLots [{ grain 1 (.kiln 0) with wload := some 4100 }]).withKiln 0 { Kiln.reset with phase := .freeDry }

theorem witness_DryingFollowsTheRatio :
    (((kilnHeard (inKiln .cooling) 600 570).lotAt? (.kiln 0)).bind (·.d0) = some 100 ∧
      ((kilnHeard (inKiln .cooling) 600 570).lotAt? (.kiln 0)).bind (·.wload) = some 4100 ∧
      (kilnHeard (inKiln .cooling) 600 570).fresh? (kilnSite 0) .ton = some 600 ∧
      (kilnHeard (inKiln .cooling) 600 570).fresh? (kilnSite 0) .toff = some 570) ∧
    (inKiln .cooling).fresh? (kilnSite 0) .ton = none ∧ ((inKiln .ready).kiln 0).phase = .ready ∧
    (((kilnHeard newDry 600 500).kiln 0).phase = .freeDry ∧ (newDry.lotAt? (.kiln 0)).any (fun l => l.d0.isNone) = true ∧
      (newDry.lotAt? (.kiln 0)).bind (·.wload) = some 4100 ∧ (kilnHeard newDry 600 500).fresh? (kilnSite 0) .toff = some 500 ∧
      ((newDry.kilnProgram 0).tfd : Int) - 10 ≤ 600 ∧ (newDry.kiln 0).breakCount < (newDry.kilnProgram 0).nb) := by decide

/-- R93: D 30 of D0 100 gives Q 307, and 350 + floor(3750 × 307 / 1024) = 1474. -/
theorem test_drying : (((kilnHeard (inKiln .cooling) 600 570).receive (.kiln 0)).lot? 1).map (fun l => (l.q, l.w)) =
    some (some 307, 1474) := by decide

/-- Both kilns hold a lot that asks, or one of them, or none; the fire is with the first. -/
def fire (x : PeatState) (asks : Vector Bool 2) : State :=
  ((inKiln .freeDry).withLots [grain 1 (.kiln 0), grain 2 (.kiln 1)]).withPeat { Peat.reset with
    state := x, holder := if x = .free then none else some 0, route := if x = .free then none else some 0, asking := asks
    spellMinutes := 30, spellLength := 30, switchMinutes := 5, switchTime := 5 }

/-- A spell that has not run its length, and a lot one peat minute short of its target. -/
def youngSpell : State := (fire .granted #v[true, true]).withPeat { (fire .granted #v[true, true]).peat with spellMinutes := 3 }
def lastMinute : State :=
  hears ((fire .granted #v[true, false]).withLots [{ grain 1 (.kiln 0) with peatGiven := 59 }]) .peat .fireState 1

/-- The fire is awarded, or taken from a kiln that no longer asks, at a minute. -/
theorem witness_PeatEventsAct_award :
    ((fire .free #v[true, true]).requesting 0 = true ∧ (fire .free #v[true, true]).requesting 1 = true ∧
      (fire .free #v[true, true]).peat.holder = none ∧
      ((fire .free #v[true, true]).lotAt? (.kiln 0)).map (fun l => l.peatTarget - l.peatGiven) =
        ((fire .free #v[true, true]).lotAt? (.kiln 1)).map fun l => l.peatTarget - l.peatGiven) ∧
    ((fire .free #v[false, true]).requesting 0 = false ∧ (fire .free #v[false, true]).requesting 1 = true) ∧
    ((fire .granted #v[false, true]).requesting 0 = false ∧ (fire .granted #v[false, true]).requesting 1 = true) ∧
    ((fire .switching #v[false, false]).requesting 0 = false ∧ (fire .switching #v[false, false]).requesting 1 = false) ∧
    ((fire .granted #v[true, true]).fire? ≠ some .burning ∧
      (fire .granted #v[true, true]).peat.spellLength ≤ (fire .granted #v[true, true]).peat.spellMinutes + 1) := by decide

/-- Both kilns ask, and the holder's lot is one peat minute short of its target. -/
def lastMinuteContested : State :=
  hears ((fire .granted #v[true, true]).withLots [{ grain 1 (.kiln 0) with peatGiven := 59 }, grain 2 (.kiln 1)]) .peat .fireState 1

theorem witness_PeatEventsAct_contested :
    lastMinuteContested.requesting 0 = true ∧ lastMinuteContested.requesting 1 = true ∧ lastMinuteContested.fire? = some .burning ∧
    (lastMinuteContested.kiln 0).phase = .freeDry ∧
    (lastMinuteContested.lotAt? (.kiln 0)).map (fun l => (l.peatGiven, l.peatTarget)) = some (59, 60) := by decide

/-- R110: two kilns with as many peat minutes remaining ask for a FREE fire, and K1 gets it. -/
theorem test_free_fire_tie_goes_to_k1 : ((fire .free #v[true, true]).receive .peat).peat.holder = some 0 := by decide

theorem witness_PeatEventsAct :
    ((fire .granted #v[true, true]).running = true ∧ (fire .granted #v[true, true]).peat.holder = some 0 ∧
      (fire .granted #v[true, true]).requesting 0 = true ∧ (fire .granted #v[true, true]).requesting 1 = true ∧
      (fire .granted #v[true, false]).requesting 1 = false ∧ (fire .granted #v[false, false]).requesting 0 = false ∧
      (fire .granted #v[true, true]).peat.spellLength ≤ (fire .granted #v[true, true]).peat.spellMinutes) ∧
    ((fire .switching #v[true, true]).requesting 0 = true ∧
      (hears (fire .switching #v[true, true]) .peat .route 2).route? = some (RouteReading.ofKiln 0) ∧
      (fire .switching #v[true, true]).peat.switchTime ≤ (fire .switching #v[true, true]).peat.switchMinutes) ∧
    ((hears (fire .granted #v[true, true]) .peat .fireState 1).imageEntry? .peat .fireState).isSome = true ∧
    (hears (fire .free #v[false, false]) .peat .fireState 1).peat.state = .free ∧
    ((hears youngSpell .peat .fireState 1).fire? = some .burning ∧ (youngSpell.kiln 0).phase = .freeDry ∧
      youngSpell.requesting 0 = true ∧ youngSpell.peat.spellMinutes + 1 < youngSpell.peat.spellLength ∧
      youngSpell.fire? ≠ some .burning ∧ (youngSpell.lotAt? (.kiln 0)).any (fun l => decide (l.peatGiven + 1 < l.peatTarget)) = true) ∧
    (lastMinute.requesting 0 = true ∧ lastMinute.requesting 1 = false ∧
      (lastMinute.lotAt? (.kiln 0)).any (fun l => decide (l.peatGiven + 1 = l.peatTarget)) = true) ∧
    (fire .switching #v[true, true]).route? ≠ some (RouteReading.ofKiln 0) := by decide

/-! ### The sampler and the journal -/

/-- Every pot in a state, the last drawn position 23. -/
def pots (s : State) (x : Pot) : State := s.withSampler { s.sampler with pots := Vector.replicate 24 x, lastDrawn := 23 }

/-- A pending draw meets an idle sampler with every pot READY. -/
def drawWaits : State :=
  let s := transferring (inSteep .done) (moving (.vessel (.box 3)) false 2)
  pots (s.withSampler { s.sampler with pending := [{ lot := 1, point := .steepOut }] }) { state := .ready, sample := none }

theorem witness_DrawStartTakesTheNextPot :
    drawWaits.running = true ∧ drawWaits.sampler.state = .idle ∧
    drawWaits.sampler.pending = { lot := 1, point := .steepOut } :: [] ∧ drawWaits.nextReady 23 ∧
    (drawWaits.lot? 1).any (·.transfer.isSome) = true := by
  unfold State.nextReady; decide

/-- A draw waits, its two entries reserved, and an entry waits to be written. -/
def owing : State := drawWaits.numberEntry false (Entry.blank .mark 0)

theorem owing_reservationsSound : owing.reservationsSound := by
  refine ⟨by decide, by decide, ?_, ?_, ?_, by decide⟩
  · intro l hl x hx ho
    rw [show owing.lots = [{ grain 1 (.steep 0) with transfer := some (moving (.vessel (.box 3)) false 2) }] from rfl,
      List.mem_singleton] at hl
    subst hl; cases hx; cases ho
  · intro d h; cases h
  · intro d h
    rw [show owing.sampler.pending = [{ lot := 1, point := .steepOut }] from rfl, List.mem_singleton] at h
    subst h
    exact ⟨{ grain 1 (.steep 0) with transfer := some (moving (.vessel (.box 3)) false 2) }, List.mem_singleton.2 rfl,
      moving (.vessel (.box 3)) false 2, rfl, rfl, rfl, rfl, rfl, by decide, fun h => by cases h⟩

theorem witness_JournalKeepsItsNumbersAndItsRoom :
    (State.startsAfresh .takeHead = false ∧ exec .takeHead up = .next up) ∧ owing.pending.head? ≠ some .startUpScan ∧
    owing.occupancySound ∧ owing.samplerSound ∧ owing.reservationsSound ∧ owing.journalSound ∧ step owing = .next owing := by
  refine ⟨⟨rfl, rfl⟩, by decide, ?_, ?_, owing_reservationsSound, ⟨by decide, by decide, 1, by decide, by decide⟩, rfl⟩
  · unfold State.occupancySound; decide
  · unfold State.samplerSound; decide

/-- A draw under way for a lot that flows from a steep which does not read EMPTY. -/
def drawFlows : State :=
  let s := transferring (inSteep .transferOut) (moving (.vessel (.box 3)) true 2)
  hears (hears (s.withSampler drawingUp.sampler) .sampler .presenceLow 4) .sampler .drawStatus 2

/-- The sampler clears with nothing waiting, its pots in a state. -/
def clearing (x : Pot) : State :=
  let s := hears (hears (pots (samplerBusy up) x) .sampler .drawStatus 2) .sampler .presenceLow 0
  s.withJournal { s.journal with reserved := 1, next := 9 }

theorem witness_DrawEndsAreEntered :
    (drawFlows.running = true ∧ drawFlows.sampler.state = .drawing ∧ drawFlows.sampler.draw.map (·.lot) = some 1 ∧
      (drawFlows.lot? 1).any (fun l => !drawFlows.bedEmpty l.place) = true ∧
      (drawFlows.imageEntry? .sampler .drawStatus).isSome = true ∧
      drawFlows.sampler.draw.any (fun d => decide (10 ≤ d.minutes)) = true) ∧
    ((clearing Pot.reset).sampler.state = .clearing ∧ (clearing Pot.reset).sampler.pending = []) ∧
    (up.sampler.state ≠ .drawing ∧ drawingUp.sampler.state = .drawing ∧
      drawingUp.sampler.draw.any (fun d => decide (10 ≤ d.minutes + 1)) = true) := by decide

/-- A carousel with one FILLED pot. -/
def oneFilled : State :=
  (clearing Pot.reset).withPot 4 { state := .filled, sample := some { lot := 1, point := .steepOut, number := 5 } }

theorem witness_PresenceMovesThePots :
    ((clearing Pot.reset).running = true ∧ ((clearing Pot.reset).imageEntry? .sampler (maskReading false)).isSome = true ∧
      (4 : PotId) = maskPot false 4 ∧ (0x010#12).getLsbD 4 = true ∧ ((clearing Pot.reset).pot 4).state = .absent ∧
      (∀ j : Fin 12, j ≠ 4 → (clearing Pot.reset).quietPot (maskPot false j) ((0x010#12).getLsbD j.val))) ∧
    (oneFilled.sampler.state = .clearing ∧
      oneFilled.pot 4 = { state := .filled, sample := some { lot := 1, point := .steepOut, number := 5 } } ∧
      (∀ j : Fin 12, j ≠ 4 → oneFilled.quietPot (maskPot false j) ((0x000#12).getLsbD j.val))) ∧
    (((clearing Pot.reset).withPot 4 { state := .spoiled, sample := none }).running = true ∧
      (((clearing Pot.reset).withPot 4 { state := .spoiled, sample := none }).pot 4).state = .spoiled) ∧
    (drawFlows.running = true ∧ (drawFlows.imageEntry? .sampler (maskReading false)).isSome = true ∧
      drawFlows.sampler.state = .drawing ∧ drawFlows.sampler.draw.any (fun d => (drawFlows.pot d.pot).state == .drawing) = true ∧
      drawFlows.sampler.draw.map (·.pot) = some (maskPot false 2) ∧
      (∀ j : Fin 12, j ≠ 2 → drawFlows.quietPot (maskPot false j) ((0x000#12).getLsbD j.val)) ∧
      (drawFlows.lot? 1).any (fun l => !drawFlows.bedEmpty l.place) = true) := by
  unfold State.quietPot; decide

/-- A LOT-IN and a SAMPLE entry, numbered 5 and 6. -/
def entry5 : Entry := { Entry.blank .lotIn 1 with number := 5, minute := 100, mass := 30000 }
def entry6 : Entry := { Entry.blank .sample 1 with number := 6, minute := 200, point := some .steepOut, pot := 3, w := 4100 }

/-- A part that starts with a base record and those two entries in its store. -/
def scanning : State :=
  { up with
    journal := Journal.reset
    sampler := Sampler.reset
    store := Store.writeRecord (Store.writeRecord (Store.writeRecord [] 0 (baseRecord 5)) 5 entry5.record) 6 entry6.record }

/-- The same store with its base record torn. -/
def scanningTorn : State :=
  { scanning with store := Store.writeRecord (Store.writeRecord [] 0 [0x00#8]) 5 entry5.record }

theorem scanning_heldRun : scanning.heldRun 5 7 := by
  refine ⟨by decide, by decide, ?_, .inr (by decide)⟩
  intro i h1 h2
  have : i = 5 ∨ i = 6 := by omega
  rcases this with rfl | rfl <;> decide

theorem witness_StartUpScanFindsTheHeldRun :
    scanning.running = true ∧ scanning.journal.state = .scanning ∧ scanning.presence? = none ∧
    baseOfRecord? (Store.record scanning.store 0) = some 5 ∧ scanning.heldRun 5 7 ∧
    (baseOfRecord? (Store.record scanningTorn.store 0) = none ∧ scanningTorn.storeSound = true ∧
      Entry.ofRecord? (Store.record scanningTorn.store 5) = some entry5 ∧ storedEntry? scanningTorn.store 6 = none) :=
  ⟨by decide, by decide, by decide, by decide, scanning_heldRun, by decide, by decide, by decide, by decide⟩

/-- R136: a store whose base record is torn begins at the lowest number among its good records. -/
theorem test_scan_of_a_torn_base : scanBase scanningTorn.store = (5, true) ∧ scanBase [] = (1, true) := by decide

/-- Three open samples: two at position 3 and one at position 20. -/
def threeOpen : List OpenSample :=
  [{ lot := 1, point := .steepOut, position := 3, number := 6 }, { lot := 2, point := .steepOut, position := 20, number := 7 },
   { lot := 3, point := .kilnOut, position := 3, number := 8 }]

/-- The rebuild with them, positions 3 and 4 present. -/
def rebuilding : State :=
  let s := hears (hears up .sampler .presenceLow 12) .sampler .presenceHigh 0
  (s.withSampler { Sampler.reset with openSamples := some threeOpen }).withJournal { up.journal with next := 9, reserved := 3 }

theorem witness_RebuildClaimsThePots :
    rebuilding.running = true ∧ rebuilding.sampler.state = .rebuilding ∧
    rebuilding.presence? = some (Vector.ofFn fun i => decide (i.val = 2 ∨ i.val = 3)) ∧ (∀ p, rebuilding.pot p = Pot.reset) ∧
    threeOpen.Pairwise (fun a b => a.number < b.number) ∧ rebuilding.sampler.openSamples = some threeOpen ∧
    rebuilding.journalSound := by
  refine ⟨by decide, by decide, by decide, by decide, by decide, by decide, by decide, by decide, 0, by decide, by decide⟩

/-- R137: of two open samples at a present position the later one fills the pot; the earlier one, and that of an absent position, are
entered as collected. -/
theorem test_rebuild_displaces :
    ((rebuilding.rebuildTest.pot 2).sample.map (·.number), rebuilding.rebuildTest.journal.reserved,
      rebuilding.rebuildTest.pathNumbers) = (some 8, 1, [9, 10]) := by decide

/-- The journal is full. -/
def journalIsFull : State := up.withJournal { up.journal with next := 4097 }

theorem witness_JournalMarkNumbersAnEntry :
    (up.accepts = true ∧ up.journal.state = .running ∧ 1 ≤ up.roomOffered) ∧ journalIsFull.roomOffered < 1 := by decide

/-- The journal with entries 1 to 8 stored; a format that erases. -/
def journalHolds : State := up.withJournal { up.journal with next := 9 }
def erasingUp : State := up.withJournal { up.journal with state := .formatting, writing := true }

theorem witness_JournalRowsAct :
    (journalHolds.accepts = true ∧ journalHolds.newestStored? = some 8 ∧ journalHolds.pinned 3 = false ∧
      journalHolds.heldCount ≠ 0) ∧
    (up.heldCount = 0 ∧ up.journal.reserved = 0 ∧ up.filledPots = 0) ∧
    (writingBase.running = true ∧ writingBase.journal.writing = true ∧ writingBase.journal.queue = .base 5 :: []) ∧
    (erasingUp.storeSound = true ∧ erasingUp.journal.state = .formatting ∧ erasingUp.writePath = [] ∧
      erasingUp.journal.writing = true ∧ erasingUp.journal.fault = false) ∧
    (up.journal.fault = false ∧ writingBase.failWrite.journal.fault = true) := by decide

/-- A release that pins a FILLED pot's entry, one above the newest stored number, and one where none is stored. -/
theorem witness_JournalRowsAct_refusals :
    (journalHolds.withPot 0 { state := .filled, sample := some { lot := 1, point := .steepOut, number := 3 } }).pinned 3 = true ∧
    (∀ newest, journalHolds.newestStored? = some newest → newest < 9) ∧ up.newestStored? = none := by
  refine ⟨by decide, fun newest h => ?_, by decide⟩
  rw [show journalHolds.newestStored? = some 8 by decide] at h
  cases h; decide

/-- The journal's requests before RUNNING, and a format's erasing stored, with a STORE-FAULT standing and without. -/
theorem witness_JournalRowsAct_busy :
    (erasingUp.accepts = true ∧ erasingUp.journal.state ≠ .running) ∧
    (erasingUp.running = true ∧ erasingUp.journal.writing = true ∧ erasingUp.journal.queue = [] ∧ erasingUp.journal.fault = false) ∧
    (let s := erasingUp.withJournal { erasingUp.journal with fault := true }
     s.running = true ∧ s.journal.writing = true ∧ s.journal.queue = [] ∧ s.journal.fault = true) := by decide

/-- A record place that is erased holds no good check. -/
theorem witness_StoredRecordsReadBack_check :
    (Store.record [] (Entry.place 1)).length = 32 ∧
    ofBytes ((Store.record [] (Entry.place 1)).drop 30) ≠ (crc16 ((Store.record [] (Entry.place 1)).take 30)).toNat := by decide

theorem witness_StoredRecordsReadBack :
    Store.wf scanning.store = true ∧ entry6.number < 4294967296 ∧ entry6.lot < 65536 ∧ entry6.pot < 256 ∧ entry6.w < 65536 ∧
    entry6.mass < 65536 ∧ entry6.peatGiven < 65536 ∧ entry6.shortfall < 65536 ∧ entry6.ref < 4294967296 := by decide

/-! ### The field link -/

/-- A roster of one steep station at position 1. -/
def oneStation (x : StationState) : State :=
  (up.withSettings { up.settings with bindings := Vector.replicate 19 none }).withLink { up.link with
    roster := [{ position := 1, kind := .steep, serial := 0x51#32, state := x, offset := 10, failCount := 50 }] }

def planFields : List StationFields := [{ position := 1, serial := 0x51#32, ups := [{ reading := 1, format := 1 }], downs := [1] }]
def onePlan : Plan :=
  { stations := [{ position := 1, serial := 0x51#32, ups := [{ reading := .level, format := .full }], downs := [.fillValve] }], e0 := 10 }

/-- The link in a state under the plan, the burst given sent and not yet returned. -/
def linked (x : LinkState) (sent : SentBurst) : State :=
  let s := (oneStation .active).withSettings { (oneStation .active).settings with
    bindings := (Vector.replicate 19 none).set 0 (some 0x51#32), plan := some onePlan }
  s.withLink { s.link with
    state := x, force := some onePlan, expected := some 10, sent := sent, missed := 2, retry := 49
    image := imageFor [] onePlan, unanswered := 3 }

theorem witness_LinkRequestsAct :
    (up.accepts = true ∧ up.link.state = .idle) ∧
    (Site.ofCode? 43 = none ∧ Site.ofCode? 45 = none ∧ (linked .run .none).link.state ≠ .idle) ∧
    ((oneStation .found).link.announcing = false ∧ (oneStation .found).mayBind (steepSite 0) 0x51#32 = true) ∧
    ((oneStation .bound).checkPlan planFields).toOption = some onePlan.stations ∧
    ((oneStation .active).withLink { (oneStation .active).link with force := some onePlan }).link.force.isSome = true ∧
    up.link.force = none := by decide

/-- A served place freed, a serial of another kind's station, a link that takes no binding, a plan that fails a check. -/
theorem witness_LinkRequestsAct_refusals :
    ((linked .idle .none).accepts = true ∧ (linked .idle .none).link.announcing = false ∧
      (linked .idle .none).serialOf? (steepSite 0) = some 0x51#32) ∧
    (∀ e ∈ (linked .idle .none).link.roster, e.serial = 0x51#32 → e.kind ≠ (boxSite 0).stationKind) ∧
    ((linked .run .none).accepts = true ∧ (linked .run .none).link.state = .run) ∧
    (up.checkPlan []) = .error .malformed :=
  ⟨by decide, by decide, by decide, rfl⟩

/-- OUT and a code that names nothing are no site's. -/
theorem witness_LinkRequestsAct_unknown (x : Site) : x.code ≠ 30 ∧ x.code ≠ 7 := by
  rcases x with (v | b | k) | _ | _ | _ <;> simp only [Site.code, Vessel.code] <;> omega

/-- The plan's one station is bound to S1 alone. -/
theorem linked_bound (x : LinkState) (sent : SentBurst) (z : Site) :
    (linked x sent).serialOf? z = some 0x51#32 ↔ z = steepSite 0 := by
  rcases z with (v | b | k) | _ | _ | _
  · revert v; exact (by decide : ∀ v, (linked .idle .none).serialOf? (steepSite v) = some 0x51#32 ↔ steepSite v = steepSite 0)
  · revert b; exact (by decide : ∀ b, (linked .idle .none).serialOf? (boxSite b) = some 0x51#32 ↔ boxSite b = steepSite 0)
  · revert k; exact (by decide : ∀ k, (linked .idle .none).serialOf? (kilnSite k) = some 0x51#32 ↔ kilnSite k = steepSite 0)
  · exact (by decide : (linked .idle .none).serialOf? .turner = some 0x51#32 ↔ Site.turner = steepSite 0)
  · exact (by decide : (linked .idle .none).serialOf? .peat = some 0x51#32 ↔ Site.peat = steepSite 0)
  · exact (by decide : (linked .idle .none).serialOf? .sampler = some 0x51#32 ↔ Site.sampler = steepSite 0)

theorem witness_CyclePeriodSendsTheBurst_commands :
    (onePlan.stations[0]?).map (·.serial) = some 0x51#32 ∧
    ∀ z, (linked .run .none).serialOf? z = some 0x51#32 ↔ z = steepSite 0 := ⟨by decide, linked_bound _ _⟩

/-- R149, R152: the fill valve of S1, CLOSED, goes out as 1 with its parity bit set. -/
theorem test_commands_of_a_plan :
    (linked .run .none).runCommands onePlan =
      [{ position := 1, commands := [{ command := .fillValve, value := 1#16, parity := true }] }] := by decide

theorem witness_CyclePeriodSendsTheBurst :
    ((linked .run .none).withLink { (linked .run .none).link with returned := true }).running = true ∧
    (linked .run .none).link.force = some onePlan ∧ (linked .down .none).link.state = .down ∧
    50 ≤ (linked .down .none).link.retry + 1 ∧
    ((linked .idle .none).link.returned = false ∧ (linked .idle .none).link.sent = .none ∧
      (linked .idle .none).link.announcing = false) ∧
    (((linked .down .none).withLink { (linked .down .none).link with force := none }).settings.plan = some onePlan) ∧
    (up.journal.writing = false ∧ writingBase.journal.writing = true ∧ writingBase.journal.queue ≠ [] ∧
      writingBase.journal.writeCycles + 1 < 50 ∧ 50 ≤ ({ writingBase.journal with writeCycles := 49 } : Journal).writeCycles + 1) := by
  decide

/-- A plan's probe unanswered for the third time in a start-up roll call, with its station found and bound, or not bound. -/
def startUpSilent (unbound : Bool) : State :=
  let s := linked .rollCall (.probe 2 20)
  (s.withSettings { s.settings with bindings := if unbound then Vector.replicate 19 none else s.settings.bindings }).withLink { s.link with
    startUpRoll := true, unanswered := 2 }

theorem witness_CyclePeriodSendsTheBurst_silence :
    ((linked .rollCall (.probe 3 30)).link.returned = false ∧ 3 ≤ (linked .rollCall (.probe 3 30)).link.unanswered + 1 ∧
      (linked .rollCall (.probe 3 30)).link.startUpRoll = false) ∧
    ((startUpSilent false).link.startUpRoll = true ∧ (startUpSilent false).settings.plan = some onePlan ∧
      (∀ y ∈ onePlan.stations, ∃ e ∈ (startUpSilent false).link.roster, e.position = y.position ∧ e.serial = y.serial ∧
        ∃ i : Fin 19, (startUpSilent false).settings.bindings[i] = some y.serial)) ∧
    (∃ y ∈ onePlan.stations, ∀ e ∈ (startUpSilent true).link.roster, e.position = y.position → e.serial = y.serial →
      ∀ i : Fin 19, (startUpSilent true).settings.bindings[i] ≠ some y.serial) ∧
    ((linked .run (.run 0 [])).link.returned = false ∧ (linked .run (.run 0 [])).link.sent ≠ .none ∧
      ¬(8 ≤ (linked .run (.run 0 [])).link.missed + 1)) ∧
    8 ≤ ((linked .run (.run 0 [])).withLink { (linked .run (.run 0 [])).link with missed := 7 }).link.missed + 1 := by decide

theorem test_eighth_silent_period_takes_the_link_down :
    (((linked .run (.run 0 [])).withLink { (linked .run (.run 0 [])).link with missed := 7 }).cyclePeriod.link.state,
      ((linked .run (.run 0 [])).withLink { (linked .run (.run 0 [])).link with missed := 7 }).cyclePeriod.link.retry) = (.down, 0) := by
  decide

theorem witness_LinkEventsAct :
    ((linked .rollCall (.probe 3 30)).running = true ∧ (linked .rollCall (.probe 3 30)).link.returned = false ∧
      (∀ x ∈ (linked .rollCall (.probe 3 30)).link.roster, x.serial ≠ 0x52#32)) ∧
    (3 ≤ (linked .rollCall .none).link.unanswered ∧ (linked .rollCall .none).link.startUpRoll = false) ∧
    ((linked .run .none).settings.plan = some onePlan ∧ onePlan.e0 - 4 ≤ 12 ∧ (12 : Int) ≤ onePlan.e0 + 15) ∧
    8 ≤ ((linked .run .none).withLink { (linked .run .none).link with missed := 8 }).link.missed ∧
    50 ≤ ((linked .down .none).withLink { (linked .down .none).link with retry := 50 }).link.retry ∧
    ((linked .run .none).link.force = some onePlan ∧
      ((linked .run .none).rosterAt? 1).map (fun e => (e.failCount, e.state)) = some (50, .active)) ∧
    ((linked .idle (.announcement [])).link.returned = false ∧
      [] ≠ (linked .idle (.announcement [])).announced onePlan.stations ∧
      ((linked .idle (.announcement [])).rosterAt? 1).map (·.offset) = some 10) := by decide

/-- The answer of a station to a probe that expects it at 30. -/
def answer (serial : Serial) (offset : Int) : ProbeAnswer := { kind := .steep, serial := serial, offset := offset, parityOk := true }

theorem witness_LinkEventsAct_answers :
    (∃ x ∈ (linked .rollCall (.probe 3 30)).link.roster, x.serial = (answer 0x51#32 30).serial) ∧
    ((30 : Int) + 15 < (answer 0x52#32 46).offset) ∧
    ((linked .rollCall (.probe 30 300)).link.sent = .probe 30 300 ∧ (linked .rollCall (.probe 30 300)).link.returned = false) ∧
    ((startUpSilent false).link.startUpRoll = true ∧ (startUpSilent false).link.roster.map (·.position) = [1]) := by decide

/-- The first plan's tried cycle is out, its announcement that of the held plan. -/
def firstTried : State :=
  let s := linked .down (.tried ((linked .down .none).announced onePlan.stations) 0 none)
  s.withLink { s.link with force := none }

theorem witness_LinkEventsAct_accepted :
    ((linked .run (.run 0 [])).link.force.isSome = true ∧ (linked .run (.run 0 [])).link.returned = false) ∧
    ((linked .down (.tried [] 0 none)).link.force.isSome = true ∧ (linked .down (.tried [] 0 none)).link.returned = false) ∧
    (firstTried.running = true ∧ firstTried.link.force = none ∧ firstTried.settings.plan = some onePlan ∧
      firstTried.link.sent = .tried (firstTried.announced onePlan.stations) 0 none ∧
      ((firstTried.rosterAt? 1).map (·.offset)) = some 10) := by decide

theorem witness_inItsWindow : (linked .run (.run 0 [])).inItsWindow none 12 ∧ (linked .run (.run 0 [])).inItsWindow (some 1) 12 ∧
    ¬(linked .run (.run 0 [])).inItsWindow none 26 ∧ ¬(linked .run (.run 0 [])).inItsWindow (some 2) 12 := by
  refine ⟨⟨onePlan, rfl, by decide, by decide⟩, ⟨_, rfl, by decide, by decide⟩, ?_, ?_⟩
  · rintro ⟨p, hp, -, h⟩; cases hp; revert h; decide
  · rintro ⟨e, he, -⟩; revert he; simp [show (linked .run (.run 0 [])).rosterAt? 2 = none by decide]

/-- Each row that brings a burst back does so somewhere. -/
theorem witness_bringsBack (b : Burst) (order : List Reactor) :
    (linked .run (.run 0 [])).bringsBack (.runCycleAccepted b order) none b.offset b.headerOk ∧
    (linked .run (.run 0 [])).bringsBack (.shortChain 2 b order) (some 2) b.offset b.headerOk ∧
    (linked .idle (.announcement [])).bringsBack (.shortChain 2 b order) (some 2) b.offset b.headerOk ∧
    (linked .idle (.announcement [])).bringsBack (.planIntoForce 40 true) none 40 true ∧
    (linked .down (.tried [] 0 none)).bringsBack (.triedCycleAccepted (some 2) b order) (some 2) b.offset b.headerOk :=
  ⟨⟨rfl, .inr ⟨b, order, rfl, rfl, .inl ⟨0, [], rfl, rfl, rfl⟩⟩⟩,
    ⟨rfl, .inr ⟨b, order, rfl, rfl, .inr (.inl ⟨2, .inl ⟨0, [], rfl⟩, rfl, rfl⟩)⟩⟩,
    ⟨rfl, .inr ⟨b, order, rfl, rfl, .inr (.inl ⟨2, .inr ⟨[], rfl⟩, rfl, rfl⟩)⟩⟩,
    ⟨rfl, .inl ⟨[], rfl, rfl, rfl⟩⟩,
    ⟨rfl, .inr ⟨b, order, rfl, rfl, .inr (.inr ⟨[], 0, none, rfl, rfl⟩)⟩⟩⟩

/-- The eighth miss, of a run cycle and of an announcement not yet accepted. -/
theorem witness_eighthMiss :
    (let s := linked .run (.run 0 []); s.withLink { s.link with missed := 7 }).eighthMiss ∧
    (let s := linked .idle (.announcement []); s.withLink { s.link with missed := 7, announcing := true }).eighthMiss ∧
    ¬(linked .run (.run 0 [])).eighthMiss := by
  unfold State.eighthMiss; decide

theorem witness_ReturningBurstsAreJudged_slots :
    ((onePlan.stations.map (·.serial)).Nodup ∧ ∀ z ∈ onePlan.stations, (z.ups.map (·.reading)).Nodup) ∧
    ((linked .run (.run 0 [])).link.image[0]?).isSome = true ∧
    (onePlan.stations.any fun y => y.ups.any fun x =>
      (linked .run (.run 0 [])).link.image.any fun e => e.serial == y.serial && e.reading == x.reading) = true ∧
    (Reading.tw.isValue = true ∧ Reading.level.isValue = false) ∧ (ones 3#16 + false.toNat) % 2 = 0 ∧
    (ones 3#16 + true.toNat) % 2 = 1 := by decide

theorem witness_ReturningBurstsAreJudged :
    (linked .run (.run 0 [])).running = true ∧ (linked .run (.run 0 [])).link.returned = false ∧
    (linked .run (.run 0 [])).link.force = some onePlan ∧ (linked .run (.run 0 [])).settings.plan = some onePlan ∧
    (linked .run (.run 0 [])).link.missed + 1 < 8 ∧
    ((linked .run (.run 0 [])).rosterAt? 1).map (·.offset) = some 10 := by decide

/-- A box station's echo and first zone, and a steep station that gave no good slot for 49 cycles, at positions 2 and 1. -/
def boxPlan : Plan :=
  { stations := onePlan.stations ++ [{
      position := 2, serial := 0x52#32, ups := [{ reading := .echo, format := .full }, { reading := .zoneA, format := .full }]
      downs := [] }]
    e0 := 10 }
def boxLinked : State :=
  let s := linked .run (.run 0 [])
  (s.withSettings { s.settings with bindings := s.settings.bindings.set 6 (some 0x52#32), plan := some boxPlan }).withLink { s.link with
    force := some boxPlan
    roster := [{ position := 1, kind := .steep, serial := 0x51#32, state := .active, offset := 10, failCount := 49 },
      { position := 2, kind := .box, serial := 0x52#32, state := .lost, offset := 10, failCount := 50 }] }
def boxBurst : Burst :=
  { offset := 10, headerOk := true, stations := [{ position := 2, slots := [.full 0#16 false, .full 150#16 false] }] }

theorem boxPlan_ordered : boxPlan.ordered := by
  unfold Plan.ordered; decide

theorem witness_chainSound : boxLinked.chainSound := by
  refine ⟨by decide, by decide, by decide, ?_, ?_⟩
  · rintro p (h | h | h | ⟨copy, h, -⟩)
    · cases h; exact boxPlan_ordered
    · cases h; exact boxPlan_ordered
    · simp [show boxLinked.eeprom.body.plan = none by decide] at h
    · exact absurd h (by simp [show boxLinked.port.saving = none by decide])
  · intro h; exact absurd h (by decide)

theorem witness_ReturningBurstsAreJudged_stations :
    boxLinked.serialOf? (.vessel (.box 0)) = some 0x52#32 ∧ (boxLinked.rosterAt? 1).isSome = true ∧
    (boxLinked.rosterAt? 2).isSome = true ∧ boxLinked.settings.plan = some boxPlan ∧ boxLinked.link.force = some boxPlan := by decide

theorem test_zone_and_stations_of_a_cycle :
    let t := (boxLinked.runReturns none boxBurst [])
    (((t.box 0).zones[0]).value, t.link.roster.map fun e => (e.failCount, e.state)) =
      (some 150, [(50, .lost), (0, .active)]) := by decide

/-- A reading of S1's station stands in the image as it came. -/
def levelCame : State :=
  let s := linked .run (.run 0 [])
  s.withLink { s.link with image := [{ serial := 0x51#32, reading := .level, value := some 3, age := 0, fed := true }] }

theorem witness_imageHas : levelCame.running = true ∧ levelCame.imageHas [(0x51#32, .level, 3)] := by
  refine ⟨by decide, fun x r v _ h => ?_⟩
  obtain ⟨n, hn, h⟩ := Option.bind_eq_some_iff.1 h
  obtain ⟨y, hy, rfl⟩ := Option.map_eq_some_iff.1 h
  obtain ⟨rfl, rfl⟩ : (0x51#32 : Serial) = n ∧ Reading.level = r := by
    have hy' := List.find?_some hy
    obtain rfl := List.mem_singleton.1 (List.mem_of_find?_eq_some hy)
    simpa using hy'
  obtain rfl := List.mem_singleton.1 (List.mem_of_find?_eq_some hy)
  obtain rfl := (linked_bound .run (.run 0 []) x).1 hn
  exact ⟨by decide, by decide⟩

/-- The turner's two readings stand in the image as they came: its position and a motion. -/
def turnerCame (motion : Motion) : State :=
  up.withLink { up.link with
    image := [{ serial := 17#32, reading := .position, value := some 3, age := 0, fed := true },
      { serial := 17#32, reading := .motion, value := some motion.code, age := 0, fed := true }] }

theorem turner_bound (m : Motion) (z : Site) : (turnerCame m).serialOf? z = some 17#32 → z = .turner := by
  rcases z with (v | b | k) | _ | _ | _
  · revert v; exact (by decide : ∀ v, up.serialOf? (steepSite v) = some 17#32 → steepSite v = .turner)
  · revert b; exact (by decide : ∀ b, up.serialOf? (boxSite b) = some 17#32 → boxSite b = .turner)
  · revert k; exact (by decide : ∀ k, up.serialOf? (kilnSite k) = some 17#32 → kilnSite k = .turner)
  · exact fun _ => rfl
  · exact (by decide : up.serialOf? .peat = some 17#32 → Site.peat = .turner)
  · exact (by decide : up.serialOf? .sampler = some 17#32 → Site.sampler = .turner)

theorem witness_turnerReacted (m : Motion) :
    (turnerCame m).imageHas [(17#32, .position, 3), (17#32, .motion, m.code)] ∧
    (turnerCame m).came? [(17#32, .position, 3), (17#32, .motion, m.code)] .turner .position = some 3 ∧
    (turnerCame m).came? [(17#32, .position, 3), (17#32, .motion, m.code)] .turner .motion = some m.code := by
  refine ⟨fun x r v _ h => ?_, by cases m <;> decide, by cases m <;> decide⟩
  obtain ⟨n, hn, h⟩ := Option.bind_eq_some_iff.1 h
  obtain ⟨y, hy, rfl⟩ := Option.map_eq_some_iff.1 h
  have hy' := List.find?_some hy
  simp only [Bool.and_eq_true, beq_iff_eq] at hy'
  obtain ⟨rfl, rfl⟩ := hy'
  have hm : y = (17#32, .position, 3) ∨ y = (17#32, .motion, m.code) := by
    simpa only [List.mem_cons, List.not_mem_nil, or_false] using List.mem_of_find?_eq_some hy
  rcases hm with rfl | rfl <;> obtain rfl := turner_bound m x hn <;> cases m <;> exact ⟨by decide, by decide⟩

/-- A plan whose image has its entries; a station of it, and a site that has none. -/
theorem witness_ReturningBurstsAreJudged_readings :
    (∀ y ∈ onePlan.stations, ∀ z ∈ y.ups, z.reading.isZone = false →
      ∃ e ∈ (linked .run (.run 0 [])).link.image, e.serial = y.serial ∧ e.reading = z.reading) ∧
    (∀ y ∈ boxPlan.stations, boxLinked.serialOf? (kilnSite 0) ≠ some y.serial) ∧
    boxLinked.serialOf? (boxSite 0) = some 0x52#32 := by decide

/-- R32, R155: a level state of COVERED in an accepted cycle starts the immersion of a steep whose fill is delivered. -/
theorem test_cycle_reaches_the_steep :
    let s := linked .run (.run 0 [])
    let s := s.withSteep 0 { s.steep 0 with state := .filling, fillStage := .running, delivered := true }
    let t := s.runReturns none { offset := 10, headerOk := true, stations := [{ position := 1, slots := [.full 3#16 false] }] } []
    ((t.steep 0).state, (t.steep 0).fillStage) = (.immersed, .none) := by decide

/-! ### The port's requests -/

theorem witness_PortRequestsAct :
    (up.accepts = true ∧ up.port.notices = [] ∧ up.port.saving = none ∧ up.journal.fault = false) ∧
    (noticesFull.accepts = true ∧ noticesFull.port.notices ≠ []) ∧
    (savingDefaults.accepts = true ∧ savingDefaults.port.saving = some Settings.default) ∧
    ∃ check, check ≠ (Eeprom.saved Settings.default).check := by
  refine ⟨by decide, by decide, by decide, (Eeprom.saved Settings.default).check + 1, ?_⟩
  generalize (Eeprom.saved Settings.default).check = c
  bv_omega

/-- R173: an image that a save wrote is usable at the next start; a blank device is not. -/
theorem test_saved_image_is_usable :
    (Eeprom.saved Settings.default).usable true = true ∧ Eeprom.blank.usable true = false :=
  ⟨by simp [Eeprom.usable, Eeprom.saved, Config.imageLength], by decide⟩

/-! ### Well-formedness: each check refuses an ill-formed command -/

theorem smoke_bindStation_serial_too_wide : (Instr.bindStation 1 (some 65535#32)).wf = false := by decide
theorem smoke_slotPlan_serial_too_wide :
    (Instr.slotPlan [{ position := 1, serial := 65536#32, ups := [], downs := [] }]).wf = false := by decide
theorem smoke_transferSettings_too_wide : (Instr.transferSettings 65536).wf = false := by decide
theorem smoke_place_code_too_wide : (Instr.steepStart 256).wf = false := by decide
theorem smoke_lotIn_omitted_value_given : (Instr.lotIn 1 1 30000 4000 (some 65535) none none).wf = false := by decide
theorem smoke_lotQuery_too_wide : (Instr.lotQuery (.place 65536)).wf = false := by decide
theorem smoke_restoreLot_stage_too_wide : (Instr.restoreLot { restored 7 21 4 with stage := 256 }).wf = false := by decide
theorem smoke_restoreLot_d0_omitted_value_given :
    (Instr.restoreLot { restored 7 21 4 with d0 := some (-1) }).wf = false := by decide
theorem smoke_restoreLot_minute_omitted_value_given :
    (Instr.restoreLot { restored 7 21 4 with lastTurn := some 0xFFFFFFFF#32 }).wf = false := by decide
theorem smoke_steepProgram_step_too_wide :
    (Instr.steepProgram 1 [{ kind := 1, minutes := 65536, litres := 0, flag := false }] true true).wf = false := by decide
theorem smoke_steepProgram_too_long :
    (Instr.steepProgram 1 (List.replicate 40 { kind := 1, minutes := 10, litres := 100, flag := false }) true true).wf = false := by
  decide
theorem smoke_waterSettings_too_wide : (Instr.waterSettings (some 4294967295) none).wf = false := by decide
theorem smoke_zoneMask_too_long : (Instr.zoneMask 7 (List.replicate 120 1)).wf = false := by decide
theorem smoke_boxSettings_too_wide :
    (Instr.boxSettings 7 { target := some 65536, minInterval := none, maxInterval := none, spreadThreshold := none, highMean := none
                           tset := none, kf := none, fbase := none, fmin := none, fmax := none }).wf = false := by decide
theorem smoke_turnerSettings_too_wide :
    (Instr.turnerSettings { travel := none, pass := none, spray := (Vector.replicate 8 none).set 7 (some 65536) }).wf = false := by
  decide
theorem smoke_kilnProgram_too_wide :
    (Instr.kilnProgram 21 { tfd := none, qb := none, nb := none, rr := none, tc := none, hc := none, wfinal := none, wend := none
                            tcool := none, maxFreeDry := none, tmax := some 65536 }).wf = false := by decide
theorem smoke_kilnForcePhase_too_wide : (Instr.kilnForcePhase 21 256).wf = false := by decide
theorem smoke_peatSettings_too_wide : (Instr.peatSettings none none (some 65535)).wf = false := by decide
theorem smoke_samplerMode_too_wide : (Instr.samplerMode 256).wf = false := by decide
theorem smoke_journalRead_too_wide : (Instr.journalRead 4294967296 1).wf = false := by decide
theorem smoke_alarmEnables_too_wide :
    (Instr.alarmEnables [{ source := 256, category := 1, enabled := true }]).wf = false := by decide
theorem smoke_alarmEnablesQuery_omitted_value_given : (Instr.alarmEnablesQuery (some 255)).wf = false := by decide
theorem smoke_alarmAck_too_wide : (Instr.alarmAck (.one 1 256)).wf = false := by decide
theorem smoke_hornSettings_too_wide :
    (Instr.hornSettings { hon := some 65535, hoff := none, enables := Vector.replicate 4 none }).wf = false := by decide
theorem smoke_bindStation_omitted_value_given : (Instr.bindStation 1 (some 0xFFFFFFFF#32)).wf = false := by decide
theorem smoke_slotPlan_slot_too_wide :
    (Instr.slotPlan [{ position := 1, serial := 1, ups := [{ reading := 256, format := 1 }], downs := [] }]).wf = false := by decide
theorem smoke_slotPlan_too_long :
    (Instr.slotPlan (List.replicate 256 { position := 1, serial := 1, ups := [], downs := [] })).wf = false := by decide
theorem smoke_fillDelivered_not_a_value : (Instr.fillDelivered 0 32768).wf = false := by decide
theorem smoke_kilnTrip_not_a_temperature : (Instr.kilnTrip 0 1501).wf = false := by decide
theorem smoke_stationLost_no_position : (Instr.stationLost 31).wf = false := by decide
theorem smoke_powerLoss_short_record :
    (Instr.powerLoss { front := some [0x00#8], formatDone := 0, image := .untouched }).wf = false := by decide
theorem smoke_resetInput_too_many_places :
    (Instr.resetInput { front := none, formatDone := 4098, image := .untouched } true).wf = false := by decide
theorem smoke_burst_carries_a_position_once :
    (Instr.runCycleAccepted { offset := 10, headerOk := true, stations := [⟨1, []⟩, ⟨1, []⟩] } []).wf = false := by decide
theorem smoke_shortChain_no_position :
    (Instr.shortChain 0 { offset := 10, headerOk := true, stations := [] } []).wf = false := by decide

/-! ### Worked values of the manual -/

/-- R170: the check of the nine characters 1 to 9 is 0x29B1. -/
theorem test_crc : crc16 [0x31#8, 0x32#8, 0x33#8, 0x34#8, 0x35#8, 0x36#8, 0x37#8, 0x38#8, 0x39#8] = 0x29B1#16 := by decide

/-- R152's table of PACKED slots: 625 arrives as 626, 1500 as 1500 and -300 as -299. -/
theorem test_packed_slots :
    decodePacked 2 156 = 626 ∧ decodePacked 0 (-40) = -40 ∧ decodePacked 3 187 = 1500 ∧ decodePacked 1 (-150) = -299 := by decide

/-- R152: a slot of odd parity fails, and so does a level state that names no level. -/
theorem test_failed_slots :
    decodeSlot? { reading := .tw, format := .packed } (.packed 2 156 true) = some 626 ∧
    decodeSlot? { reading := .tw, format := .packed } (.packed 2 156 false) = none ∧
    decodeSlot? { reading := .level, format := .full } (.full 3 false) = some 3 ∧
    decodeSlot? { reading := .level, format := .full } (.full 4 true) = none := by decide

/-- The five arrivals of 10.7 with E0 192. -/
theorem test_turnaround_window :
    judge? (some 192) 192 193 = some 192 ∧ judge? (some 192) 192 197 = some 197 ∧ judge? (some 197) 192 198 = some 197 ∧
    judge? (some 197) 192 208 = none ∧ judge? (some 197) 192 196 = some 197 := by decide

/-- R172: the first bytes of an entry's record are its number, its kind's code, its flags and its minute. -/
theorem test_record_head :
    entry6.record.take 14 = [0#8, 0#8, 0#8, 6#8, 2#8, 0#8, 0#8, 0#8, 0#8, 200#8, 0#8, 1#8, 1#8, 3#8] ∧
    entry6.record.length = 32 := by decide

end Sys2Proof.Tests
end

/-! PROOFS. Lots, places and transfers: RESTORE-LOT and its checks (R9, R10). -/

namespace Sys2Proof.Machine

/-! ### Requests taken -/

/-- A request that the part accepts is answered by its block (R163). -/
theorem takeRequest_accepts {s : State} {kind : Byte} {act : State → Answer} (h : s.accepts = true) :
    s.takeRequest kind act = (act s).1.answer kind (act s).2 := by
  simp only [State.accepts, Bool.and_eq_true, beq_iff_eq] at h
  obtain ⟨hframes, hready⟩ := h
  exact takeRequest_ready hframes hready

@[simp] theorem answer_lots (s : State) (kind : Byte) (r : Reply) : (s.answer kind r).lots = s.lots := rfl
@[simp] theorem answer_reply (s : State) (kind : Byte) (r : Reply) : (s.answer kind r).port.reply = some (kind, r) := rfl

/-! ### The lot table -/

/-- A number that no record carries finds the record put in under it, wherever it stands (R4). -/
theorem find?_insertLot {l : Lot} {xs : List Lot} (h : xs.find? (·.number == l.number) = none) :
    (insertLot l xs).find? (·.number == l.number) = some l := by
  induction xs with
  | nil => simp [insertLot]
  | cons x rest ih =>
    rw [List.find?_cons] at h
    split at h
    · cases h
    · rename_i hx
      unfold insertLot
      split
      · simp
      · rw [List.find?_cons, hx]
        exact ih h

/-! ### Entries to states leave the lot table -/

theorem AlarmsMove.lots_eq {s t : State} (h : AlarmsMove s t) : t.lots = s.lots := by
  obtain ⟨a, q, n, o, rfl⟩ := h
  rfl

@[simp] theorem steepEnter_lots (s : State) (v : SteepId) (x : SteepState) : (s.steepEnter v x).lots = s.lots :=
  (steepEnter_moves s v x).lots_eq

@[simp] theorem boxTend_lots (s : State) (b : BoxId) (x : BoxState) : (s.boxTend b x).lots = s.lots :=
  (boxEnter_moves _ b x).lots_eq

@[simp] theorem kilnEnter_lots (s : State) (k : KilnId) (x : KilnPhase) : (s.kilnEnter k x).lots = s.lots := by
  obtain ⟨y, h⟩ := kilnEnter_moves s k x
  exact h.lots_eq

@[simp] theorem peatAsk_lots (s : State) (k : KilnId) : (s.peatAsk k).lots = s.lots := rfl

@[simp] theorem kilnRestore_lots (s : State) (k : KilnId) (x : KilnPhase) : (s.kilnRestore k x).lots = s.lots := by
  cases x <;> simp [State.kilnRestore]

@[simp] theorem restoreVessel_lots (s : State) (x : RestoreState) : (s.restoreVessel x).lots = s.lots := by
  cases x <;> simp [State.restoreVessel]

/-! ### The restored record (R10) -/

/-- The steps that depend on the place keep the number and the place. -/
theorem restoredInto_number_place (l : Lot) (now : Minute) (x : RestoreState) :
    (l.restoredInto now x).number = l.number ∧ (l.restoredInto now x).place = l.place := by
  cases x with
  | steepDone v => exact ⟨rfl, rfl⟩
  | box b y => exact ⟨rfl, rfl⟩
  | kiln k y => cases y <;> exact ⟨rfl, rfl⟩

/-! ### The checks of RESTORE-LOT (R9) -/

/-- The model finds a state to restore into exactly where R9 allows the code. -/
theorem restoreState?_eq_none_iff (p : Vessel) (code : Nat) : restoreState? p code = none ↔ ¬ State.restorable p code := by
  cases p with
  | steep v => simp [restoreState?, State.restorable]
  | box b =>
    simp only [restoreState?, State.restorable]
    repeat' split
    all_goals simp only [*, not_true_eq_false, not_false_eq_true, or_true, true_or, or_self, reduceCtorEq]
  | kiln k =>
    simp only [restoreState?, State.restorable]
    repeat' split
    all_goals simp only [*, not_true_eq_false, not_false_eq_true, or_true, true_or, or_self, reduceCtorEq]

section Checks

variable {s : State} {lot place code : Nat} {p : Vessel} {x : RestoreState}

theorem checkRestore_range (h : lot < 1 ∨ 65535 < lot) : checkRestore s lot place code = .error .range := by
  rw [checkRestore, if_pos h]

theorem checkRestore_unknownPlace (h : ¬ (lot < 1 ∨ 65535 < lot)) (hp : Place.ofCode? place = none) :
    checkRestore s lot place code = .error .unknownPlace := by
  rw [checkRestore, if_neg h, hp]

theorem checkRestore_out (h : ¬ (lot < 1 ∨ 65535 < lot)) (hp : Place.ofCode? place = some .out) :
    checkRestore s lot place code = .error .conflict := by
  rw [checkRestore, if_neg h, hp]

theorem checkRestore_notRestorable (h : ¬ (lot < 1 ∨ 65535 < lot)) (hp : Place.ofCode? place = some (.vessel p))
    (hx : restoreState? p code = none) : checkRestore s lot place code = .error .range := by
  simp only [checkRestore, if_neg h, hp, hx]

/-- Past the checks of the request's own fields: the place, the table's room and the number in use, in that order. -/
theorem checkRestore_restorable (h : ¬ (lot < 1 ∨ 65535 < lot)) (hp : Place.ofCode? place = some (.vessel p))
    (hx : restoreState? p code = some x) :
    checkRestore s lot place code =
      if !(s.isFree p) then .error .state
      else if 16 ≤ s.lots.length then .error .full
      else if (s.lot? lot).isSome = true then .error .conflict
      else .ok (p, x) := by
  simp only [checkRestore, if_neg h, hp, hx]
  rfl

end Checks

/-! ### RESTORE-LOT as a command -/

section Requests

variable {s : State} {f : RestoreFields}

theorem exec_restoreLot (h : s.accepts = true) :
    exec (.restoreLot f) s = .next ((reqRestoreLot f s).1.answer 0x12#8 (reqRestoreLot f s).2) :=
  congrArg Host.Outcome.next (takeRequest_accepts h)

theorem reqRestoreLot_error {r : Reason} (hstage : (Stage.ofCode? f.stage).isSome = true)
    (hc : checkRestore s f.lot f.place f.state = .error r) : reqRestoreLot f s = s.refuse r := by
  simp only [reqRestoreLot, Option.isNone_eq_false_iff.mpr hstage, hc, Bool.false_eq_true, if_false]

theorem reqRestoreLot_ok {p : Vessel} {x : RestoreState} (hstage : (Stage.ofCode? f.stage).isSome = true)
    (hc : checkRestore s f.lot f.place f.state = .ok (p, x)) :
    reqRestoreLot f s =
      ((s.withLots (insertLot ((restoredBase f p).restoredInto s.now x) s.lots)).restoreVessel x,
       .done (lotFields ((restoredBase f p).restoredInto s.now x) ++
         [.flag (restoreClamped f ((restoredBase f p).restoredInto s.now x))])) := by
  simp only [reqRestoreLot, Option.isNone_eq_false_iff.mpr hstage, hc, Bool.false_eq_true, if_false]

/-- A failed check leaves the state but for the reply. -/
theorem exec_restoreLot_refused {r : Reason} (h : s.accepts = true) (hstage : (Stage.ofCode? f.stage).isSome = true)
    (hc : checkRestore s f.lot f.place f.state = .error r) :
    exec (.restoreLot f) s = .next (s.answer 0x12#8 (.refused r)) := by
  rw [exec_restoreLot h, reqRestoreLot_error hstage hc, State.refuse]

/-- A request that passes the checks is answered DONE, and its lot is found in its place. -/
theorem exec_restoreLot_accepted {p : Vessel} {x : RestoreState} (h : s.accepts = true)
    (hstage : (Stage.ofCode? f.stage).isSome = true) (hc : checkRestore s f.lot f.place f.state = .ok (p, x))
    (hnew : s.lot? f.lot = none) :
    ∃ t l fields, exec (.restoreLot f) s = .next t ∧ t.lot? f.lot = some l ∧ l.place = p ∧
      t.port.reply = some (0x12#8, .done fields) := by
  obtain ⟨hnumber, hplace⟩ := restoredInto_number_place (restoredBase f p) s.now x
  have hreq := reqRestoreLot_ok hstage hc
  generalize (restoredBase f p).restoredInto s.now x = l at hnumber hplace hreq
  replace hnumber : l.number = f.lot := hnumber
  refine ⟨_, l, _, exec_restoreLot h, ?_, hplace, by rw [hreq, answer_reply]⟩
  rw [State.lot?, ← hnumber] at hnew ⊢
  simpa [hreq] using find?_insertLot hnew

end Requests

/-- Settles O30: the model's checks stand in the order of R9's table, and each outcome of the checks has one effect. -/
theorem restoreLotChecksInOrder : Obligations.RestoreLotChecksInOrder := by
  unfold Obligations.RestoreLotChecksInOrder
  intro s f hs hstage refusedWith
  have refused {r : Reason} : checkRestore s f.lot f.place f.state = .error r → refusedWith r :=
    exec_restoreLot_refused hs hstage
  split
  next hlot => exact refused (checkRestore_range hlot)
  next hlot =>
  cases hplace : Place.ofCode? f.place with
  | none => simpa using refused (checkRestore_unknownPlace hlot hplace)
  | some d =>
    cases d with
    | out => simpa using refused (checkRestore_out hlot hplace)
    | vessel p =>
      simp only [reduceCtorEq, if_false, Option.some.injEq, Place.vessel.injEq]
      refine ⟨p, rfl, ?_⟩
      cases hx : restoreState? p f.state with
      | none =>
        have hno := (restoreState?_eq_none_iff p f.state).mp hx
        simpa [hno] using refused (checkRestore_notRestorable hlot hplace hx)
      | some x =>
        have hyes : State.restorable p f.state := Classical.not_not.mp fun hno =>
          Option.some_ne_none x (hx.symm.trans ((restoreState?_eq_none_iff p f.state).mpr hno))
        have hc := checkRestore_restorable (s := s) hlot hplace hx
        refine ⟨fun hno => absurd hyes hno, fun _ hfree => ?_, fun _ hfree hfull => ?_, fun _ hfree hroom hused => ?_,
          fun _ hfree hroom hnew => ?_⟩
        · exact refused (by simp [hc, hfree])
        · exact refused (by simp [hc, hfree, hfull])
        · exact refused (by simp [hc, hfree, Nat.not_le.mpr hroom, hused])
        · exact exec_restoreLot_accepted (x := x) hs hstage (by simp [hc, hfree, Nat.not_le.mpr hroom, hnew]) hnew

end Sys2Proof.Machine

/-! PROOFS. Kiln firing: what a kiln minute makes of the drop, from D0 over Q and W to the break count (R91 to R95). -/

namespace Sys2Proof.Machine

/-! ### What a report to the Alarm List or a notice leaves unchanged -/

theorem AlarmsMove.kiln_eq {s t : State} (h : AlarmsMove s t) (k : KilnId) : t.kiln k = s.kiln k := by
  obtain ⟨a, q, n, o, rfl⟩ := h
  rfl

theorem AlarmsMove.settings_eq {s t : State} (h : AlarmsMove s t) : t.settings = s.settings := by
  obtain ⟨a, q, n, o, rfl⟩ := h
  rfl

theorem AlarmsMove.link_eq {s t : State} (h : AlarmsMove s t) : t.link = s.link := by
  obtain ⟨a, q, n, o, rfl⟩ := h
  rfl

section Reports

variable (s : State) (x y : Source) (c d : AlarmKind) (k : KilnId)

@[simp] theorem raise_lots : (s.raise x c).lots = s.lots := (raise_moves s x c).lots_eq
@[simp] theorem raise_kiln : (s.raise x c).kiln k = s.kiln k := (raise_moves s x c).kiln_eq k
@[simp] theorem raise_settings : (s.raise x c).settings = s.settings := (raise_moves s x c).settings_eq
@[simp] theorem raise_link : (s.raise x c).link = s.link := (raise_moves s x c).link_eq

@[simp] theorem ended_lots : (s.ended x c).lots = s.lots := (ended_moves s x c).lots_eq
@[simp] theorem ended_kiln : (s.ended x c).kiln k = s.kiln k := (ended_moves s x c).kiln_eq k
@[simp] theorem ended_settings : (s.ended x c).settings = s.settings := (ended_moves s x c).settings_eq

@[simp] theorem notify_lots (b : NoticeBody) : (s.notify b).lots = s.lots := (notify_moves s b).lots_eq
@[simp] theorem notify_kiln (b : NoticeBody) : (s.notify b).kiln k = s.kiln k := (notify_moves s b).kiln_eq k

@[simp] theorem notifyChange_kiln (z : Subject) (a b : Nat) : (s.notifyChange z a b).kiln k = s.kiln k :=
  (notifyChange_moves s z a b).kiln_eq k

/-! ### The standing set (R138, R141, R142) -/

@[simp] theorem notify_alarms (b : NoticeBody) : (s.notify b).alarms = s.alarms := by
  unfold State.notify
  split
  · split <;> rfl
  · rfl

@[simp] theorem notifyChange_alarms (z : Subject) (a b : Nat) : (s.notifyChange z a b).alarms = s.alarms := by
  unfold State.notifyChange
  split
  · rfl
  · exact notify_alarms s _

@[simp] theorem hornTest_standing : s.hornTest.alarms.standing = s.alarms.standing := by
  unfold State.hornTest
  split
  · split <;> rfl
  · rfl

@[simp] theorem newAlarm_standing : (s.newAlarm x c).alarms.standing = s.alarms.standing := by
  dsimp only [State.newAlarm]
  split
  · simp [State.hornStart]
  · simp

@[simp] theorem enterAlarm_standing : (s.enterAlarm x c).alarms.standing = s.alarms.standing := by
  unfold State.enterAlarm
  split
  · simp
  · split <;> simp

@[simp] theorem arise_standing : (s.arise x c).alarms.standing = s.alarms.standing := by
  unfold State.arise
  split
  · simp
  · split <;> simp

/-- A report of raising puts the condition at the end of the set, where it does not stand in it. -/
theorem raise_standing : (s.raise x c).alarms.standing =
    if s.stands x c then s.alarms.standing else s.alarms.standing ++ [⟨x, c⟩] := by
  unfold State.raise State.stands
  cases s.alarms.standing.contains ⟨x, c⟩
  case true =>
    simp only [if_true]
    split
    · split <;> simp
    · rfl
  case false =>
    simp only [Bool.false_eq_true, if_false]
    split <;> simp

/-- A report of ending takes the condition out of the set. -/
theorem ended_standing : (s.ended x c).alarms.standing = s.alarms.standing.filter (· != ⟨x, c⟩) := by
  unfold State.ended
  split
  case isTrue =>
    dsimp only
    split
    · rfl
    · split <;> simp
  case isFalse h =>
    have hne : ∀ e ∈ s.alarms.standing, (e != ⟨x, c⟩) = true :=
      fun e he => bne_iff_ne.2 fun heq => h (List.contains_iff_mem.2 (heq ▸ he))
    exact (List.filter_eq_self.2 hne).symm

/-- What stands after a report of raising: what stood, and the condition reported. -/
@[simp] theorem stands_raise : (s.raise x c).stands y d = (s.stands y d || decide (y = x ∧ d = c)) := by
  rw [State.stands, raise_standing]
  split
  case isTrue h =>
    by_cases heq : y = x ∧ d = c
    · obtain ⟨rfl, rfl⟩ := heq
      simpa [State.stands] using h
    · simp [State.stands, heq]
  case isFalse => simp [State.stands]

/-- What stands after a report of ending: what stood, but for the condition reported. -/
@[simp] theorem stands_ended : (s.ended x c).stands y d = (s.stands y d && !decide (y = x ∧ d = c)) := by
  rw [State.stands, ended_standing, Bool.eq_iff_iff]
  simp [State.stands]

end Reports

/-! ### The lot at a vessel -/

theorem lotAt?_congr {s t : State} (h : t.lots = s.lots) (p : Vessel) : t.lotAt? p = s.lotAt? p := by
  rw [State.lotAt?, h, State.lotAt?]

/-- A change to the records at a vessel that leaves them there is read back from it. -/
theorem lotAt?_modLotAt {s : State} {p : Vessel} {f : Lot → Lot} {l : Lot} (hl : s.lotAt? p = some l)
    (hf : ∀ x, (f x).place = x.place) : (s.modLotAt p f).lotAt? p = some (f l) := by
  have hplace : ((·.place == p) ∘ fun x : Lot => if x.place = p then f x else x) = (·.place == p) := by
    funext x
    by_cases h : x.place = p <;> simp [h, hf]
  have hlp : l.place = p := by simpa using List.find?_some hl
  rw [State.lotAt?] at hl
  rw [State.lotAt?, State.modLotAt, State.withLots_lots, List.find?_map, hplace, hl, Option.map_some, if_pos hlp]

section ModLotAt

variable (s : State) (p : Vessel) (f : Lot → Lot) (k : KilnId)

@[simp] theorem modLotAt_kiln : (s.modLotAt p f).kiln k = s.kiln k := rfl
@[simp] theorem modLotAt_settings : (s.modLotAt p f).settings = s.settings := rfl
@[simp] theorem modLotAt_alarms : (s.modLotAt p f).alarms = s.alarms := rfl

end ModLotAt

/-! ### The drying ratio and the estimate (R93) -/

/-- Q is at most 1024, whatever the drops. -/
theorem dryingRatio_le (d d0 : Int) : dryingRatio d d0 ≤ 1024 := by
  unfold dryingRatio
  split
  · omega
  · exact Nat.le_of_lt_succ (Config.openRatio d d0).isLt

/-- With a first drop above 0, Q is the floor of R93. -/
theorem dryingRatio_eq_of_fdiv {d d0 : Int} {q : Nat} (hd0 : 0 < d0) (hq : (q : Int) = min 1024 ((d * 1024).fdiv d0)) :
    dryingRatio d d0 = q := by
  rw [Int.fdiv_eq_ediv_of_nonneg _ (Int.le_of_lt hd0)] at hq
  rw [dryingRatio, if_pos hd0, ← hq, Int.toNat_natCast]

/-- At the first drop itself Q is 1024. -/
theorem dryingRatio_self {d : Int} (h : 0 < d) : dryingRatio d d = 1024 := by
  rw [dryingRatio, if_pos h, Int.mul_ediv_cancel_left _ (Int.ne_of_gt h)]
  rfl

theorem moistureEstimate_le {wload wend q : Nat} (hq : q ≤ 1024) : moistureEstimate wload wend q ≤ wload := by
  unfold moistureEstimate
  split
  · have h : (wload - wend) * q / 1024 ≤ wload - wend :=
      Nat.div_le_of_le_mul (Nat.mul_comm q _ ▸ Nat.mul_le_mul_right _ hq)
    omega
  · exact Nat.le_refl _

theorem wend_le_moistureEstimate {wload wend q : Nat} (h : wend ≤ wload) : wend ≤ moistureEstimate wload wend q := by
  unfold moistureEstimate
  split <;> omega

/-- At the ratio 1024 nothing has dried: the estimate is Wload. -/
theorem moistureEstimate_full (wload wend : Nat) : moistureEstimate wload wend 1024 = wload := by
  unfold moistureEstimate
  split <;> omega

/-! ### Entering a phase, and the peat fire's stop -/

section Phases

variable (s : State) (k j : KilnId)

@[simp] theorem kilnEnter_breakCount (x : KilnPhase) : ((s.kilnEnter k x).kiln k).breakCount = (s.kiln k).breakCount := by
  unfold State.kilnEnter
  split <;> simp

theorem kilnEnter_phase {s : State} {k : KilnId} (h : (s.kiln k).phase ≠ .tripped) (x : KilnPhase) :
    ((s.kilnEnter k x).kiln k).phase = x := by
  simp [State.kilnEnter, h]

@[simp] theorem withKiln_stands (z : Kiln) (y : Source) (c : AlarmKind) :
    (s.withKiln k z).stands y c = s.stands y c := rfl

@[simp] theorem kilnEnter_stands (x : KilnPhase) (y : Source) (c : AlarmKind) :
    (s.kilnEnter k x).stands y c = s.stands y c := by
  unfold State.kilnEnter State.stands
  split <;> simp

/-- A grant given or ended touches the kiln's grant and damper alone (R108). -/
theorem setGrant_kiln (x : Bool) : ∃ g o, (s.setGrant j x).kiln k = { s.kiln k with peatGrant := g, damperOpen := o } := by
  by_cases h : j = k
  · subst h
    exact ⟨_, _, State.withKiln_kiln _ _ _⟩
  · exact ⟨_, _, State.withKiln_kiln_ne _ _ _ _ h⟩

@[simp] theorem peatEnter_lots (x : PeatState) (h : Option KilnId) : (s.peatEnter x h).lots = s.lots := by
  dsimp only [State.peatEnter]
  repeat' split
  all_goals simp

@[simp] theorem peatEnter_kiln (x : PeatState) (h : Option KilnId) : (s.peatEnter x h).kiln k = s.kiln k := by
  dsimp only [State.peatEnter]
  repeat' split
  all_goals simp

@[simp] theorem peatStop_lots : (s.peatStop j).lots = s.lots := by
  dsimp only [State.peatStop, State.peatRelease]
  repeat' split
  all_goals simp [State.setGrant]

/-- A stop of the ask touches a kiln's grant and damper alone (R107, R108). -/
theorem peatStop_kiln : ∃ g o, (s.peatStop j).kiln k = { s.kiln k with peatGrant := g, damperOpen := o } := by
  dsimp only [State.peatStop, State.peatRelease]
  split
  · split
    · simpa using setGrant_kiln (s.withPeat { s.peat with asking := s.peat.asking.set j false }) k _ false
    · exact ⟨_, _, peatEnter_kiln _ _ _ _⟩
  · exact ⟨_, _, rfl⟩

@[simp] theorem peatStop_phase : ((s.peatStop j).kiln k).phase = (s.kiln k).phase := by
  obtain ⟨g, o, h⟩ := peatStop_kiln s k j
  rw [h]

@[simp] theorem peatStop_breakCount : ((s.peatStop j).kiln k).breakCount = (s.kiln k).breakCount := by
  obtain ⟨g, o, h⟩ := peatStop_kiln s k j
  rw [h]

end Phases

/-! ### The break (R95) -/

/-- The record of a lot after a break, natural or forced (R95, R97). -/
def Lot.broken (l : Lot) (now : Minute) (forced : Bool) : Lot :=
  { l with breakMinute := some now, forced := forced, shortfall := some (l.peatTarget - l.peatGiven) }

section Break

variable (s : State) (k : KilnId) (forced : Bool)

/-- A break writes its fields into the lot and nothing else into the lot table. -/
theorem kilnBreak_lotAt? {l : Lot} (hl : s.lotAt? (.kiln k) = some l) :
    (s.kilnBreak k forced).lotAt? (.kiln k) = some (l.broken s.now forced) := by
  have hlots : (s.kilnBreak k forced).lots = (s.modLotAt (.kiln k) (·.broken s.now forced)).lots := by
    dsimp only [State.kilnBreak]
    split <;> simp [State.modLotAt, Lot.broken]
  rw [lotAt?_congr hlots]
  exact lotAt?_modLotAt hl fun _ => rfl

@[simp] theorem kilnBreak_breakCount : ((s.kilnBreak k forced).kiln k).breakCount = (s.kiln k).breakCount := by
  dsimp only [State.kilnBreak]
  split <;> simp

theorem kilnBreak_phase {s : State} {k : KilnId} (h : (s.kiln k).phase ≠ .tripped) :
    ((s.kilnBreak k forced).kiln k).phase = .curingRamp := by
  dsimp only [State.kilnBreak]
  rw [kilnEnter_phase]
  split <;> simpa using h

/-- A break ends KILN-DROP-LOW. -/
@[simp] theorem kilnBreak_dropLow : (s.kilnBreak k forced).stands (.vessel (.kiln k)) .kilnDropLow = false := by
  simp [State.kilnBreak]

end Break

/-! ### The counts of a minute and the end of a blind one (R91, R96, R103) -/

theorem fresh?_congr {s t : State} (hset : t.settings = s.settings) (hlink : t.link = s.link) (x : Site) (r : Reading) :
    t.fresh? x r = s.fresh? x r := by
  simp only [State.fresh?, State.imageEntry?, State.serialOf?, hset, hlink]

theorem kilnAir?_eq_some {s : State} {k : KilnId} {ton toff : Int} (hton : s.fresh? (kilnSite k) .ton = some ton)
    (htoff : s.fresh? (kilnSite k) .toff = some toff) : s.kilnAir? k = some (ton, toff) := by
  simp only [State.kilnAir?, hton, htoff]

theorem kilnAir?_eq_none {s : State} {k : KilnId}
    (h : s.fresh? (kilnSite k) .ton = none ∨ s.fresh? (kilnSite k) .toff = none) : s.kilnAir? k = none := by
  unfold State.kilnAir?
  split
  case h_1 hton htoff => simp [hton, htoff] at h
  case h_2 => rfl

/-- What the parts of a kiln minute that come before the drying tests keep: the lot table, what the readings come from, the
kiln's phase and break count, and whether KILN-DROP-LOW stands. -/
structure DryingKept (k : KilnId) (s t : State) : Prop where
  lots : t.lots = s.lots
  settings : t.settings = s.settings
  link : t.link = s.link
  phase : (t.kiln k).phase = (s.kiln k).phase
  breakCount : (t.kiln k).breakCount = (s.kiln k).breakCount
  dropLow : t.stands (.vessel (.kiln k)) .kilnDropLow = s.stands (.vessel (.kiln k)) .kilnDropLow

section Kept

variable (s : State) (k : KilnId)

theorem DryingKept.refl : DryingKept k s s := ⟨rfl, rfl, rfl, rfl, rfl, rfl⟩

theorem DryingKept.trans {k : KilnId} {s t u : State} (h : DryingKept k s t) (h' : DryingKept k t u) : DryingKept k s u :=
  ⟨h'.lots.trans h.lots, h'.settings.trans h.settings, h'.link.trans h.link, h'.phase.trans h.phase,
    h'.breakCount.trans h.breakCount, h'.dropLow.trans h.dropLow⟩

theorem DryingKept.withKiln {s : State} {k : KilnId} {x : Kiln} (hphase : x.phase = (s.kiln k).phase)
    (hcount : x.breakCount = (s.kiln k).breakCount) : DryingKept k s (s.withKiln k x) :=
  ⟨rfl, rfl, rfl, by simpa using hphase, by simpa using hcount, rfl⟩

theorem DryingKept.raise (x : Source) (c : AlarmKind) (h : c ≠ .kilnDropLow) : DryingKept k s (s.raise x c) :=
  ⟨by simp, by simp, by simp, by simp, by simp, by simp [h.symm]⟩

theorem DryingKept.ended (x : Source) (c : AlarmKind) (h : c ≠ .kilnDropLow) : DryingKept k s (s.ended x c) :=
  ⟨by simp, by simp, (ended_moves s x c).link_eq, by simp, by simp, by simp [h.symm]⟩

theorem breakLateTest_kept : DryingKept k s (s.breakLateTest k) := by
  unfold State.breakLateTest
  split
  · exact .trans (.withKiln (by rfl) (by rfl)) (.raise _ k _ _ nofun)
  · exact .refl s k

theorem kilnCounts_kept : DryingKept k s (s.kilnCounts k) := by
  unfold State.kilnCounts
  split
  case h_1 => exact .trans (.withKiln (by rfl) (by rfl)) (breakLateTest_kept _ k)
  case h_2 =>
    split
    · exact .withKiln rfl rfl
    · exact .refl s k
  all_goals exact .refl s k

theorem endBlind_kept : DryingKept k s (s.endBlind k) := by
  have hended : DryingKept k s
      ((s.withKiln k { s.kiln k with blindMinutes := 0 }).ended (.vessel (.kiln k)) .kilnBlind) :=
    .trans (.withKiln (by rfl) (by rfl)) (.ended _ k _ _ nofun)
  exact hended.trans (.withKiln rfl rfl)

theorem blindMinute_kept : DryingKept k s (s.blindMinute k) := by
  have hraise (n : Nat) :
      DryingKept k s ((s.withKiln k { s.kiln k with blindMinutes := n }).raise (.vessel (.kiln k)) .kilnBlind) :=
    .trans (.withKiln (by rfl) (by rfl)) (.raise _ k _ _ nofun)
  dsimp only [State.blindMinute]
  split
  · exact (hraise _).trans (.withKiln rfl rfl)
  · exact hraise _

@[simp] theorem endBlind_freeDryMinutes : ((s.endBlind k).kiln k).freeDryMinutes = (s.kiln k).freeDryMinutes := by
  simp [State.endBlind, State.setSetpoint]

/-- A minute of FREE-DRY counts (R91 step 1). -/
theorem kilnCounts_freeDryMinutes {s : State} {k : KilnId} (h : (s.kiln k).phase = .freeDry) :
    ((s.kilnCounts k).kiln k).freeDryMinutes = (s.kiln k).freeDryMinutes + 1 := by
  simp only [State.kilnCounts, h, State.breakLateTest]
  split <;> simp

end Kept

/-- The kiln after steps 1 to 3 of its minute: counted, and no longer blind (R91). -/
def State.counted (s : State) (k : KilnId) : State := (s.kilnCounts k).endBlind k

theorem counted_kept (s : State) (k : KilnId) : DryingKept k s (s.counted k) :=
  (kilnCounts_kept s k).trans (endBlind_kept _ k)

theorem counted_freeDryMinutes {s : State} {k : KilnId} (h : (s.kiln k).phase = .freeDry) :
    ((s.counted k).kiln k).freeDryMinutes = (s.kiln k).freeDryMinutes + 1 := by
  rw [State.counted, endBlind_freeDryMinutes, kilnCounts_freeDryMinutes h]

theorem kilnCounts_kilnAir? (s : State) (k : KilnId) : (s.kilnCounts k).kilnAir? k = s.kilnAir? k := by
  have h := kilnCounts_kept s k
  simp only [State.kilnAir?, fresh?_congr h.settings h.link]

/-! ### The minute as a whole (R91) -/

/-- The phases that have a plant minute: FREE-DRY, CURING and COOLING. -/
def State.kilnWorks (s : State) (k : KilnId) : Prop :=
  (s.kiln k).phase = .freeDry ∨ (s.kiln k).phase = .curingRamp ∨ (s.kiln k).phase = .curingHold ∨ (s.kiln k).phase = .cooling

section Minute

variable {s : State} {k : KilnId}

/-- A minute of a working kiln that is not blind: the counts, then the capture, the ratio and the tests of the phase. -/
theorem kilnMinute_working {ton toff : Int}
    (hphase : s.kilnWorks k) (hton : s.fresh? (kilnSite k) .ton = some ton) (htoff : s.fresh? (kilnSite k) .toff = some toff) :
    s.kilnMinute k =
      (((s.counted k).captureTest k ton (kilnDrop ton toff)).ratioTest k (kilnDrop ton toff)).phaseTest k ton := by
  have hwork : s.kilnMinute k = s.kilnWork k := by
    rcases hphase with h | h | h | h <;> simp only [State.kilnMinute, h]
  rw [hwork]
  simp only [State.kilnWork, kilnCounts_kilnAir?, kilnAir?_eq_some hton htoff, State.counted]

/-- A minute that finds a reading stale writes no lot (R103). -/
theorem kilnMinute_lots_of_blind (h : s.fresh? (kilnSite k) .ton = none ∨ s.fresh? (kilnSite k) .toff = none) :
    (s.kilnMinute k).lots = s.lots := by
  have hwork : (s.kilnWork k).lots = s.lots := by
    simp only [State.kilnWork, kilnCounts_kilnAir?, kilnAir?_eq_none h]
    exact ((kilnCounts_kept s k).trans (blindMinute_kept _ k)).lots
  unfold State.kilnMinute
  split
  case h_1 | h_2 | h_3 | h_4 => exact hwork
  all_goals rfl

end Minute

/-! ### The capture of D0 (R92) -/

section Capture

variable {s : State} {k : KilnId} {l : Lot} {ton d : Int}

/-- A lot that has its first drop keeps it. -/
theorem captureTest_of_d0 {d0 : Int} (hl : s.lotAt? (.kiln k) = some l) (hd0 : l.d0 = some d0) : s.captureTest k ton d = s := by
  simp [State.captureTest, hl, hd0]

theorem captureTest_captures (hl : s.lotAt? (.kiln k) = some l) (hphase : (s.kiln k).phase = .freeDry) (hd0 : l.d0 = none)
    (hton : ((s.kilnProgram k).tfd : Int) - 10 ≤ ton) (hd : 20 ≤ d) :
    s.captureTest k ton d =
      (s.modLotAt (.kiln k) fun l => { l with d0 := some d }).ended (.vessel (.kiln k)) .kilnDropLow := by
  simp only [State.captureTest, hl, hphase, hd0, hton, hd, and_self, if_true]

theorem captureTest_waits (hl : s.lotAt? (.kiln k) = some l) (hphase : (s.kiln k).phase = .freeDry) (hd0 : l.d0 = none)
    (h : ¬ (((s.kilnProgram k).tfd : Int) - 10 ≤ ton ∧ 20 ≤ d)) :
    s.captureTest k ton d =
      if 30 ≤ (s.kiln k).freeDryMinutes then s.raise (.vessel (.kiln k)) .kilnDropLow else s := by
  simp only [State.captureTest, hl, hphase, hd0, and_self, if_true, if_neg h]

end Capture

/-! ### Q, W and the break count (R93, R94) -/

/-- The record of a lot at a drying ratio: Q, and W under the minimum rule (R93). -/
def Lot.dried (l : Lot) (wend q : Nat) : Lot :=
  { l with q := some q, w := min l.w (moistureEstimate (l.wload.getD l.w) wend q) }

section Ratio

variable {s : State} {k : KilnId} {l : Lot} {d d0 : Int}

theorem ratioTest_without_d0 (hl : s.lotAt? (.kiln k) = some l) (hd0 : l.d0 = none) : s.ratioTest k d = s := by
  simp [State.ratioTest, hl, hd0]

/-- With a first drop the record takes Q and the smaller of W and the estimate. -/
theorem ratioTest_lotAt? (hl : s.lotAt? (.kiln k) = some l) (hd0 : l.d0 = some d0) :
    (s.ratioTest k d).lotAt? (.kiln k) = some (l.dried (s.kilnProgram k).wend (dryingRatio d d0)) := by
  have hlots : (s.ratioTest k d).lots =
      (s.modLotAt (.kiln k) (·.dried (s.kilnProgram k).wend (dryingRatio d d0))).lots := by
    simp only [State.ratioTest, hl, Option.bind_some, hd0]
    split <;> rfl
  rw [lotAt?_congr hlots]
  exact lotAt?_modLotAt hl fun _ => rfl

/-- The ratio leaves the settings, the alarms and the phase as they are. -/
theorem ratioTest_frame : (s.ratioTest k d).settings = s.settings ∧ (s.ratioTest k d).alarms = s.alarms ∧
    ((s.ratioTest k d).kiln k).phase = (s.kiln k).phase := by
  unfold State.ratioTest
  split
  · exact ⟨rfl, rfl, rfl⟩
  · dsimp only
    split <;> simp

/-- In FREE-DRY the break count rises where Q is at most Qb, and is 0 otherwise. -/
theorem ratioTest_breakCount_freeDry (hl : s.lotAt? (.kiln k) = some l) (hd0 : l.d0 = some d0)
    (hphase : (s.kiln k).phase = .freeDry) :
    ((s.ratioTest k d).kiln k).breakCount =
      if dryingRatio d d0 ≤ (s.kilnProgram k).qb then (s.kiln k).breakCount + 1 else 0 := by
  simp only [State.ratioTest, hl, Option.bind_some, hd0, modLotAt_kiln, hphase, if_true, State.withKiln_kiln]
  rfl

theorem ratioTest_breakCount (hphase : (s.kiln k).phase ≠ .freeDry) :
    ((s.ratioTest k d).kiln k).breakCount = (s.kiln k).breakCount := by
  unfold State.ratioTest
  split
  · rfl
  · simp [hphase]

end Ratio

/-! ### The tests of the phase (R91 step 5) -/

section PhaseTest

variable {s : State} {k : KilnId} {ton : Int}

theorem phaseTest_freeDry (h : (s.kiln k).phase = .freeDry) :
    s.phaseTest k ton = if (s.kilnProgram k).nb ≤ (s.kiln k).breakCount then s.kilnBreak k false else s := by
  simp [State.phaseTest, h, State.breakDue]

/-- Outside FREE-DRY the tests move the kiln's phase and commands; the lot table and the break count stay. -/
theorem phaseTest_of_not_freeDry (h : (s.kiln k).phase ≠ .freeDry) :
    (s.phaseTest k ton).lots = s.lots ∧ ((s.phaseTest k ton).kiln k).breakCount = (s.kiln k).breakCount := by
  unfold State.phaseTest
  split
  case h_1 hfree => exact absurd hfree h
  case h_2 =>
    dsimp only [State.rampMinute]
    repeat' split
    all_goals simp
  case h_3 => split <;> simp [State.kilnCool]
  case h_4 => split <;> simp
  all_goals exact ⟨rfl, rfl⟩

/-- The tests of the phase write at most the break fields of the lot. -/
theorem phaseTest_lotAt? {m : Lot} (hm : s.lotAt? (.kiln k) = some m) :
    ∃ n, (s.phaseTest k ton).lotAt? (.kiln k) = some n ∧ n.number = m.number ∧ n.d0 = m.d0 ∧ n.q = m.q ∧ n.w = m.w := by
  have unchanged {t : State} (h : t.lots = s.lots) :
      ∃ n, t.lotAt? (.kiln k) = some n ∧ n.number = m.number ∧ n.d0 = m.d0 ∧ n.q = m.q ∧ n.w = m.w :=
    ⟨m, (lotAt?_congr h _).trans hm, rfl, rfl, rfl, rfl⟩
  by_cases hphase : (s.kiln k).phase = .freeDry
  · rw [phaseTest_freeDry hphase]
    split
    · exact ⟨_, kilnBreak_lotAt? s k false hm, rfl, rfl, rfl, rfl⟩
    · exact unchanged rfl
  · exact unchanged (phaseTest_of_not_freeDry hphase).1

end PhaseTest

/-! ### A minute with D0: Q, W and the break -/

section Dried

variable {s : State} {k : KilnId} {l : Lot} {ton d d0 : Int}

/-- The tests from the ratio on leave Q and the smaller of W and the estimate in the lot (R93). -/
theorem dried_lotAt? (hl : s.lotAt? (.kiln k) = some l) (hd0 : l.d0 = some d0) :
    ∃ m, ((s.ratioTest k d).phaseTest k ton).lotAt? (.kiln k) = some m ∧ m.number = l.number ∧ m.d0 = some d0 ∧
      m.q = some (dryingRatio d d0) ∧
      m.w = min l.w (moistureEstimate (l.wload.getD l.w) (s.kilnProgram k).wend (dryingRatio d d0)) := by
  obtain ⟨m, hm, hnumber, hd, hq, hw⟩ := phaseTest_lotAt? (ton := ton) (ratioTest_lotAt? (d := d) hl hd0)
  exact ⟨m, hm, hnumber, hd.trans hd0, hq, hw⟩

/-- In FREE-DRY the break count follows Q, and at Nb the kiln breaks (R94, R95). -/
theorem dried_freeDry {count : Nat} (hl : s.lotAt? (.kiln k) = some l) (hd0 : l.d0 = some d0)
    (hphase : (s.kiln k).phase = .freeDry)
    (hcount : count = if dryingRatio d d0 ≤ (s.kilnProgram k).qb then (s.kiln k).breakCount + 1 else 0) :
    let t := (s.ratioTest k d).phaseTest k ton
    (t.kiln k).breakCount = count ∧
      (t.kiln k).phase = if (s.kilnProgram k).nb ≤ count then .curingRamp else .freeDry := by
  obtain ⟨hset, -, hkept⟩ := ratioTest_frame (s := s) (k := k) (d := d)
  have hfree : ((s.ratioTest k d).kiln k).phase = .freeDry := hkept.trans hphase
  have hbreaks : ((s.ratioTest k d).kiln k).breakCount = count :=
    (ratioTest_breakCount_freeDry hl hd0 hphase).trans hcount.symm
  have hnb : (s.ratioTest k d).kilnProgram k = s.kilnProgram k := by
    rw [State.kilnProgram, hset, State.kilnProgram]
  dsimp only
  rw [phaseTest_freeDry hfree, hnb, hbreaks]
  split
  · exact ⟨(kilnBreak_breakCount _ _ _).trans hbreaks, kilnBreak_phase _ (by simp [hfree])⟩
  · exact ⟨hbreaks, hfree⟩

theorem dried_breakCount (hphase : (s.kiln k).phase ≠ .freeDry) :
    (((s.ratioTest k d).phaseTest k ton).kiln k).breakCount = (s.kiln k).breakCount :=
  (phaseTest_of_not_freeDry (by rwa [ratioTest_frame.2.2])).2.trans (ratioTest_breakCount hphase)

/-- Where KILN-DROP-LOW does not stand, the tests of a FREE-DRY kiln from the ratio on leave it so. -/
theorem dried_dropLow (hphase : (s.kiln k).phase = .freeDry) (h : s.stands (.vessel (.kiln k)) .kilnDropLow = false) :
    ((s.ratioTest k d).phaseTest k ton).stands (.vessel (.kiln k)) .kilnDropLow = false := by
  obtain ⟨-, halarms, hkept⟩ := ratioTest_frame (s := s) (k := k) (d := d)
  rw [phaseTest_freeDry (hkept.trans hphase)]
  split
  · exact kilnBreak_dropLow _ _ _
  · rwa [State.stands, halarms]

end Dried

/-! ### The kiln minute's clauses -/

section Clauses

variable {s : State} {k : KilnId} {l : Lot} {ton toff d0 : Int}

theorem DryingKept.kilnProgram {t : State} (h : DryingKept k s t) : t.kilnProgram k = s.kilnProgram k := by
  rw [State.kilnProgram, h.settings, State.kilnProgram]

theorem counted_lotAt? : (s.counted k).lotAt? (.kiln k) = s.lotAt? (.kiln k) := lotAt?_congr (counted_kept s k).lots _

theorem counted_freeDry (h : (s.kiln k).phase = .freeDry) : ((s.counted k).kiln k).phase = .freeDry :=
  (counted_kept s k).phase.trans h

/-- A minute that finds D0 is the ratio and the tests of the phase on the counted kiln. -/
theorem kilnMinute_of_d0 (hphase : s.kilnWorks k) (hton : s.fresh? (kilnSite k) .ton = some ton)
    (htoff : s.fresh? (kilnSite k) .toff = some toff)
    (hl : s.lotAt? (.kiln k) = some l) (hd0 : l.d0 = some d0) :
    s.kilnMinute k = ((s.counted k).ratioTest k (kilnDrop ton toff)).phaseTest k ton := by
  rw [kilnMinute_working hphase hton htoff, captureTest_of_d0 (counted_lotAt?.trans hl) hd0]

/-- A minute of FREE-DRY that captures D0 writes it with Q 1024, and W comes no higher than Wload; KILN-DROP-LOW stands no more
(R92, R93). -/
theorem kilnMinute_captures {wload : Nat} (hphase : (s.kiln k).phase = .freeDry)
    (hton : s.fresh? (kilnSite k) .ton = some ton) (htoff : s.fresh? (kilnSite k) .toff = some toff)
    (hl : s.lotAt? (.kiln k) = some l) (hd0 : l.d0 = none) (hwload : l.wload = some wload)
    (hhot : ((s.kilnProgram k).tfd : Int) - 10 ≤ ton) (hdrop : 20 ≤ ton - toff) :
    (∃ m, (s.kilnMinute k).lotAt? (.kiln k) = some m ∧ m.number = l.number ∧ m.d0 = some (ton - toff) ∧ m.q = some 1024 ∧
      m.w = min l.w wload) ∧ (s.kilnMinute k).stands (.vessel (.kiln k)) .kilnDropLow = false := by
  have hd : kilnDrop ton toff = ton - toff := Int.max_eq_right (by omega)
  have hlc : (s.counted k).lotAt? (.kiln k) = some l := counted_lotAt?.trans hl
  have hcap := captureTest_captures (ton := ton) hlc (counted_freeDry hphase) hd0
    ((counted_kept s k).kilnProgram ▸ hhot) hdrop
  rw [kilnMinute_working (.inl hphase) hton htoff, hd, hcap]
  constructor
  · have hlot : (((s.counted k).modLotAt (.kiln k) fun l => { l with d0 := some (ton - toff) }).ended (.vessel (.kiln k))
        .kilnDropLow).lotAt? (.kiln k) = some { l with d0 := some (ton - toff) } := by
      rw [lotAt?_congr (ended_lots _ _ _)]
      exact lotAt?_modLotAt hlc fun _ => rfl
    obtain ⟨m, hm, hnumber, hmd0, hq, hw⟩ := dried_lotAt? (ton := ton) (d := ton - toff) hlot rfl
    rw [dryingRatio_self (by omega)] at hq hw
    refine ⟨m, hm, hnumber, hmd0, hq, hw.trans ?_⟩
    rw [moistureEstimate_full, hwload, Option.getD_some]
  · exact dried_dropLow (by simpa using counted_freeDry hphase) (by simp)

/-- A minute of FREE-DRY without the conditions of the capture writes no lot and, with the break count below Nb, moves no phase; from
minute 30 on it raises KILN-DROP-LOW (R92). -/
theorem kilnMinute_waits (hphase : (s.kiln k).phase = .freeDry)
    (hton : s.fresh? (kilnSite k) .ton = some ton) (htoff : s.fresh? (kilnSite k) .toff = some toff)
    (hl : s.lotAt? (.kiln k) = some l) (hd0 : l.d0 = none)
    (hlow : ton < (s.kilnProgram k).tfd - 10 ∨ ton - toff < 20) (hcount : (s.kiln k).breakCount < (s.kilnProgram k).nb) :
    let t := s.kilnMinute k
    t.lots = s.lots ∧ (t.kiln k).phase = .freeDry ∧ (t.kiln k).breakCount = (s.kiln k).breakCount ∧
      t.stands (.vessel (.kiln k)) .kilnDropLow =
        (s.stands (.vessel (.kiln k)) .kilnDropLow || decide (30 ≤ (s.kiln k).freeDryMinutes + 1)) := by
  have hkept := counted_kept s k
  have hlc : (s.counted k).lotAt? (.kiln k) = some l := counted_lotAt?.trans hl
  have hno : ¬ ((((s.counted k).kilnProgram k).tfd : Int) - 10 ≤ ton ∧ 20 ≤ kilnDrop ton toff) := by
    rw [hkept.kilnProgram, kilnDrop]
    omega
  have hcap := captureTest_waits hlc (counted_freeDry hphase) hd0 hno
  rw [counted_freeDryMinutes hphase] at hcap
  have hrest {u : State} (hu : u.lots = (s.counted k).lots) (hset : u.settings = (s.counted k).settings)
      (hkiln : u.kiln k = (s.counted k).kiln k) : (u.ratioTest k (kilnDrop ton toff)).phaseTest k ton = u := by
    have hfree : (u.kiln k).phase = .freeDry := by rw [hkiln, counted_freeDry hphase]
    rw [ratioTest_without_d0 ((lotAt?_congr hu _).trans hlc) hd0, phaseTest_freeDry hfree, if_neg]
    rw [State.kilnProgram, hset, hkept.settings, hkiln, hkept.breakCount]
    exact Nat.not_le.2 hcount
  dsimp only
  rw [kilnMinute_working (.inl hphase) hton htoff, hcap]
  split
  case isTrue h30 =>
    rw [hrest (by simp) (by simp) (by simp)]
    exact ⟨by simp [hkept.lots], by simp [counted_freeDry hphase], by simp [hkept.breakCount], by simp [h30]⟩
  case isFalse h30 =>
    rw [hrest rfl rfl rfl]
    exact ⟨hkept.lots, counted_freeDry hphase, hkept.breakCount, by simp [h30, hkept.dropLow]⟩

/-- A minute that finds D0 writes Q and, into W, the smaller of W and the estimate; in FREE-DRY the break count follows Q and at Nb the
kiln breaks, elsewhere the count stays (R93 to R95). -/
theorem kilnMinute_dries {wload q : Nat} (hphase : s.kilnWorks k) (hton : s.fresh? (kilnSite k) .ton = some ton)
    (htoff : s.fresh? (kilnSite k) .toff = some toff) (hl : s.lotAt? (.kiln k) = some l) (hd0 : l.d0 = some d0)
    (hwload : l.wload = some wload) (hq : dryingRatio (kilnDrop ton toff) d0 = q) :
    let t := s.kilnMinute k
    ∃ m, t.lotAt? (.kiln k) = some m ∧ m.number = l.number ∧ m.q = some q ∧
      m.w = min l.w (moistureEstimate wload (s.kilnProgram k).wend q) ∧
      ((s.kiln k).phase = .freeDry → ∀ count, count = (if q ≤ (s.kilnProgram k).qb then (s.kiln k).breakCount + 1 else 0) →
        (t.kiln k).breakCount = count ∧
        (t.kiln k).phase = if (s.kilnProgram k).nb ≤ count then .curingRamp else .freeDry) ∧
      ((s.kiln k).phase ≠ .freeDry → (t.kiln k).breakCount = (s.kiln k).breakCount) := by
  subst hq
  have hkept := counted_kept s k
  have hlc : (s.counted k).lotAt? (.kiln k) = some l := counted_lotAt?.trans hl
  dsimp only
  rw [kilnMinute_of_d0 hphase hton htoff hl hd0, ← hkept.kilnProgram, ← hkept.breakCount]
  obtain ⟨m, hm, hnumber, -, hmq, hw⟩ := dried_lotAt? (ton := ton) (d := kilnDrop ton toff) hlc hd0
  rw [hwload, Option.getD_some] at hw
  exact ⟨m, hm, hnumber, hmq, hw, fun hfree count hcount => dried_freeDry hlc hd0 (counted_freeDry hfree) hcount,
    fun hfree => dried_breakCount (by rwa [hkept.phase])⟩

end Clauses

/-- Settles O46: a minute with D0 by the ratio and the phase tests on the counted kiln, one without by the capture
test's two outcomes. -/
theorem dryingFollowsTheRatio : Obligations.DryingFollowsTheRatio := by
  unfold Obligations.DryingFollowsTheRatio
  intro s k l hl t
  refine ⟨?_, ?_, kilnMinute_lots_of_blind, fun hready => ?_⟩
  · intro ton toff d0 wload q est hphase hton htoff hd0 h20 hwload hq hest
    have hratio : dryingRatio (kilnDrop ton toff) d0 = q := dryingRatio_eq_of_fdiv (by omega) hq
    have hle : q ≤ 1024 := hratio ▸ dryingRatio_le _ d0
    obtain rfl : est = moistureEstimate wload (s.kilnProgram k).wend q := hest
    exact ⟨hle, moistureEstimate_le hle, wend_le_moistureEstimate,
      kilnMinute_dries hphase hton htoff hl hd0 hwload hratio⟩
  · intro ton toff wload hphase hton htoff hd0 hwload
    exact ⟨kilnMinute_captures hphase hton htoff hl hd0 hwload, kilnMinute_waits hphase hton htoff hl hd0⟩
  · simp only [t, State.receive, State.kilnMinute, hready]

end Sys2Proof.Machine

/-! PROOFS. The journal: what numbering an entry does, and JOURNAL-MARK (R128, R130, R134). -/

namespace Sys2Proof.Machine

/-! ### Reports and notices only add to the notice queue -/

section Notices

variable (s : State) (x : Source) (c : AlarmKind)

theorem withAlarms_notices (a : Alarms) : s.port.notices <+: (s.withAlarms a).port.notices := List.prefix_rfl

theorem notify_notices (b : NoticeBody) : s.port.notices <+: (s.notify b).port.notices := by
  unfold State.notify
  split
  · split
    · exact List.prefix_append _ _
    · exact List.prefix_rfl
  · exact List.prefix_rfl

@[simp] theorem hornTest_port : s.hornTest.port = s.port := by
  unfold State.hornTest
  split
  · split <;> rfl
  · rfl

/-- The horn writes no notice, so a new alarm's own notice is the only one. -/
@[simp] theorem newAlarm_port : (s.newAlarm x c).port = (s.notify (.alarmRaised x c s.now)).port := by
  dsimp only [State.newAlarm]
  split
  · rfl
  · exact hornTest_port _

theorem newAlarm_notices : s.port.notices <+: (s.newAlarm x c).port.notices :=
  (newAlarm_port s x c).symm ▸ notify_notices s _

theorem enterAlarm_notices : s.port.notices <+: (s.enterAlarm x c).port.notices := by
  unfold State.enterAlarm
  split
  · exact (withAlarms_notices s _).trans (newAlarm_notices _ x c)
  · split
    · exact (withAlarms_notices s _).trans (newAlarm_notices _ x c)
    · exact List.prefix_rfl

theorem arise_notices : s.port.notices <+: (s.arise x c).port.notices := by
  unfold State.arise
  split
  · exact enterAlarm_notices s x c
  · split
    · exact (withAlarms_notices s _).trans (newAlarm_notices _ x c)
    · exact List.prefix_rfl

theorem raise_notices : s.port.notices <+: (s.raise x c).port.notices := by
  unfold State.raise
  cases s.alarms.standing.contains ⟨x, c⟩
  case true =>
    simp only [if_true]
    split
    · split
      · exact enterAlarm_notices s x c
      · exact List.prefix_rfl
    · exact List.prefix_rfl
  case false =>
    simp only [Bool.false_eq_true, if_false]
    split
    · exact (withAlarms_notices s _).trans (arise_notices _ x c)
    · exact List.prefix_rfl

theorem ended_notices : s.port.notices <+: (s.ended x c).port.notices := by
  unfold State.ended
  split
  · dsimp only
    split
    · exact List.prefix_rfl
    · split
      · exact List.prefix_rfl
      · rw [hornTest_port]
        exact (withAlarms_notices s _).trans (notify_notices _ _)
      · rw [hornTest_port]
        exact (withAlarms_notices s _).trans (notify_notices _ _)
  · exact List.prefix_rfl

end Notices

/-! ### Reports -/

/-- What reports to the Alarm List and notices do to a state: they touch the alarms and the notices, and of the notices they
only add to the queue. -/
structure Reported (s t : State) : Prop where
  moves : AlarmsMove s t
  notices : s.port.notices <+: t.port.notices

theorem Reported.refl (s : State) : Reported s s := ⟨.refl s, List.prefix_rfl⟩

theorem Reported.trans {s t u : State} (h : Reported s t) (k : Reported t u) : Reported s u :=
  ⟨h.moves.trans k.moves, h.notices.trans k.notices⟩

theorem Reported.frame {s t : State} (h : Reported s t) : t = { s with alarms := t.alarms, port := t.port } := by
  obtain ⟨⟨a, q, n, o, rfl⟩, -⟩ := h
  rfl

theorem Reported.journal_eq {s t : State} (h : Reported s t) : t.journal = s.journal := by rw [h.frame]

/-- A state that differs from the one before by reports alone, then answered, has the port of a request that was answered. -/
theorem Reported.replied {s t : State} (h : Reported s t) (kind : Byte) (r : Reply) : s.replied (t.answer kind r) kind r := by
  obtain ⟨⟨a, q, n, o, rfl⟩, hq⟩ := h
  exact ⟨hq, rfl⟩

theorem notify_reported (s : State) (b : NoticeBody) : Reported s (s.notify b) := ⟨notify_moves s b, notify_notices s b⟩

theorem raise_reported (s : State) (x : Source) (c : AlarmKind) : Reported s (s.raise x c) :=
  ⟨raise_moves s x c, raise_notices s x c⟩

theorem ended_reported (s : State) (x : Source) (c : AlarmKind) : Reported s (s.ended x c) :=
  ⟨ended_moves s x c, ended_notices s x c⟩

theorem journalFull_reported (s : State) : Reported s s.journalFull := by
  unfold State.journalFull
  split
  · exact raise_reported s _ _
  · exact .refl s

theorem journalTest_reported (s : State) : Reported s s.journalTest := by
  have full (t : State) : Reported t (if 3 ≤ t.room then t.ended .journal .journalFull else t) := by
    split
    · exact ended_reported t _ _
    · exact .refl t
  refine .trans ?_ (full _)
  split
  · split
    · exact .refl s
    · exact raise_reported s _ _
  · exact ended_reported s _ _

/-! ### The write path and numbering (R128, R130) -/

/-- An item joins the write path at its back, and of the journal only the write path and the write under way change. -/
theorem enqueueWrite_journal (s : State) (i : WriteItem) :
    ∃ q b w n, s.enqueueWrite i = s.withJournal { s.journal with queue := q, backlog := b, writing := w, writeCycles := n } ∧
      q ++ b = s.writePath ++ [i] := by
  have begun (t : State) : ∃ w n, t.beginWrite = t.withJournal { t.journal with writing := w, writeCycles := n } := by
    unfold State.beginWrite
    split
    · exact ⟨_, _, rfl⟩
    · exact ⟨_, _, rfl⟩
  unfold State.enqueueWrite State.writePath
  split
  case isTrue h =>
    obtain ⟨w, n, hbegin⟩ := begun (s.withJournal { s.journal with queue := s.journal.queue ++ [i] })
    have hempty : s.journal.backlog = [] := List.isEmpty_iff.1 (Bool.and_eq_true_iff.1 h).1
    exact ⟨_, _, w, n, hbegin, by simp [hempty]⟩
  case isFalse =>
    obtain ⟨w, n, hbegin⟩ := begun (s.withJournal { s.journal with backlog := s.journal.backlog ++ [i] })
    exact ⟨_, _, w, n, hbegin, (List.append_assoc ..).symm⟩

/-- Numbering an entry is the count of its number and its place in the write path, followed by reports: its own notice, and the
tests of the room (R128, R129). -/
theorem numberEntry_reported (s : State) (reserved : Bool) (draft : Entry) :
    ∃ q b w n, q ++ b = s.writePath ++ [.entry { draft with number := s.journal.next, minute := s.now }] ∧
      Reported
        (s.withJournal { s.journal with
          next := s.journal.next + 1
          reserved := if reserved then s.journal.reserved - 1 else s.journal.reserved
          queue := q, backlog := b, writing := w, writeCycles := n })
        (s.numberEntry reserved draft) := by
  obtain ⟨q, b, w, n, hjoin, hpath⟩ := enqueueWrite_journal (s.withJournal { s.journal with
    next := s.journal.next + 1, reserved := if reserved then s.journal.reserved - 1 else s.journal.reserved })
    (.entry { draft with number := s.journal.next, minute := s.now })
  refine ⟨q, b, w, n, hpath, ?_⟩
  dsimp only [State.numberEntry]
  rw [hjoin]
  exact (notify_reported _ _).trans (journalTest_reported _)

/-- An entry taken from its originator is numbered. -/
theorem numbered_numberEntry (s : State) (reserved : Bool) (draft : Entry) :
    s.numbered (s.numberEntry reserved draft) { draft with number := s.journal.next, minute := s.now } := by
  obtain ⟨q, b, w, n, hpath, h⟩ := numberEntry_reported s reserved draft
  unfold State.numbered
  rw [State.writePath, h.journal_eq]
  exact ⟨rfl, rfl, rfl, hpath, rfl, rfl, rfl⟩

/-- A reply leaves the journal, so what was numbered before it is numbered after it. -/
theorem numbered_answer {s t : State} {e : Entry} (h : s.numbered t e) (kind : Byte) (r : Reply) :
    s.numbered (t.answer kind r) e := h

theorem numberEntry_reserved (s : State) (reserved : Bool) (draft : Entry) :
    (s.numberEntry reserved draft).journal.reserved = if reserved then s.journal.reserved - 1 else s.journal.reserved := by
  obtain ⟨q, b, w, n, -, h⟩ := numberEntry_reported s reserved draft
  rw [h.journal_eq]
  rfl

theorem numberEntry_frame (s : State) (reserved : Bool) (draft : Entry) :
    let t := s.numberEntry reserved draft
    t = { s with journal := t.journal, alarms := t.alarms, port := t.port } := by
  obtain ⟨j, a, q, n, o, h⟩ := numberEntry_moves s reserved draft
  rw [h]
  rfl

theorem numberEntry_replied (s : State) (reserved : Bool) (draft : Entry) (kind : Byte) (r : Reply) :
    s.replied ((s.numberEntry reserved draft).answer kind r) kind r := by
  obtain ⟨q, b, w, n, -, h⟩ := numberEntry_reported s reserved draft
  exact h.replied kind r

/-! ### JOURNAL-MARK (R134) -/

section Mark

variable {s : State} (reference : BitVec 32)

/-- The MARK entry before its number: the reference, and every other field absent. -/
def markDraft : Entry := { Entry.blank .mark 0 with ref := reference.toNat }

theorem exec_journalMark_full (h : s.accepts = true) (hrun : s.journal.state = .running) (hroom : s.roomOffered < 1) :
    exec (.journalMark reference) s = .next (s.journalFull.answer 0x4C#8 (.refused .full)) := by
  have hreq : reqJournalMark reference s = s.journalFull.refuse .full := by
    simp [reqJournalMark, State.journalRuns, hrun, hroom]
  exact congrArg Host.Outcome.next ((takeRequest_accepts h).trans (by rw [hreq, State.refuse]))

theorem exec_journalMark_done (h : s.accepts = true) (hrun : s.journal.state = .running) (hroom : 1 ≤ s.roomOffered) :
    exec (.journalMark reference) s =
      .next ((s.numberEntry false (markDraft reference)).answer 0x4C#8 (.done [.w s.journal.next])) := by
  have hreq : reqJournalMark reference s = (s.numberEntry false (markDraft reference), .done [.w s.journal.next]) := by
    simp [reqJournalMark, State.journalRuns, hrun, Nat.not_lt.2 hroom, markDraft]
  exact congrArg Host.Outcome.next ((takeRequest_accepts h).trans (by rw [hreq]))

end Mark

/-- Settles O53: without room only reports come before the refusal, with room the mark is an entry numbered without a
reservation. -/
theorem journalMarkNumbersAnEntry : Obligations.JournalMarkNumbersAnEntry := by
  unfold Obligations.JournalMarkNumbersAnEntry
  intro s reference hs hrun
  refine ⟨fun hroom => ?_, fun hroom => ?_⟩
  · have h := journalFull_reported s
    refine ⟨_, exec_journalMark_full reference hs hrun hroom, h.journal_eq, h.replied _ _, ?_⟩
    exact congrArg (·.answer 0x4C#8 (.refused .full)) h.frame
  · have hexec := exec_journalMark_done reference hs hrun hroom
    have hnumbered := numbered_numberEntry s false (markDraft reference)
    have hreserved := numberEntry_reserved s false (markDraft reference)
    have hframe := numberEntry_frame s false (markDraft reference)
    have hreplied := numberEntry_replied s false (markDraft reference) 0x4C#8 (.done [.w s.journal.next])
    generalize s.numberEntry false (markDraft reference) = t at hexec hnumbered hreserved hframe hreplied
    refine ⟨_, hexec, numbered_answer hnumbered _ _, hreserved, ?_, hreplied⟩
    exact congrArg (·.answer 0x4C#8 (.done [.w s.journal.next])) hframe

end Sys2Proof.Machine

/-! PROOFS. Alarms: what a report of ending does to the alarm list and the notice queue (R138, R142). -/

namespace Sys2Proof.Machine

/-! ### The notice and the horn's test leave the list, and the list the notice -/

/-- A notice goes by the mask, the clock and the port alone, whatever the alarms hold. -/
theorem notify_withAlarms (s : State) (a : Alarms) (b : NoticeBody) :
    (s.withAlarms a).notify b = (s.notify b).withAlarms a := by
  unfold State.notify
  rw [State.withAlarms_settings, State.withAlarms_port]
  split
  · split <;> rfl
  · rfl

@[simp] theorem hornTest_entries (s : State) : s.hornTest.alarms.entries = s.alarms.entries := by
  unfold State.hornTest
  split
  · split <;> rfl
  · rfl

/-! ### The report of ending, by the state of the entry (R142) -/

section Ending

variable {s : State} {x : Source} {k : AlarmKind} {e : AlarmEntry}

/-- The condition out of the standing set, and nothing more. -/
def State.unstand (s : State) (x : Source) (k : AlarmKind) : State :=
  s.withAlarms { s.alarms with standing := s.alarms.standing.filter (· != ⟨x, k⟩) }

/-- The condition out of the standing set, the list given in place of the list, the notice of it, and the horn's test. -/
def State.endEntry (s : State) (x : Source) (k : AlarmKind) (entries : List AlarmEntry) : State :=
  (((s.unstand x k).withAlarms { (s.unstand x k).alarms with entries }).notify (.alarmCleared x k)).hornTest

/-- The state after a report of ending for a condition that stood, by the state of its entry. -/
def State.endedFrom (s : State) (x : Source) (k : AlarmKind) : AlarmState → State
  | .clearedUnack => s.unstand x k
  | .activeAck => s.endEntry x k (s.alarms.entries.filter fun y => !(y.names x k))
  | .activeUnack =>
    s.endEntry x k (s.alarms.entries.map fun y => if y.names x k then { y with state := .clearedUnack } else y)

theorem endEntry_entries (s : State) (x : Source) (k : AlarmKind) (entries : List AlarmEntry) :
    (s.endEntry x k entries).alarms.entries = entries := by
  simp [State.endEntry]

theorem endEntry_port (s : State) (x : Source) (k : AlarmKind) (entries : List AlarmEntry) :
    (s.endEntry x k entries).port = (s.notify (.alarmCleared x k)).port := by
  simp [State.endEntry, State.unstand, notify_withAlarms]

theorem ended_of_no_entry (h : s.stands x k = true) (he : s.alarmEntry? x k = none) : s.ended x k = s.unstand x k := by
  unfold State.stands at h
  unfold State.alarmEntry? at he
  simp only [State.ended, h, if_true, State.alarmEntry?, State.withAlarms_alarms, he, State.unstand]

theorem ended_of_entry (h : s.stands x k = true) (he : s.alarmEntry? x k = some e) :
    s.ended x k = s.endedFrom x k e.state := by
  unfold State.stands at h
  unfold State.alarmEntry? at he
  simp only [State.ended, h, if_true, State.alarmEntry?, State.withAlarms_alarms, he]
  cases e.state <;> rfl

end Ending

/-- Settles O24: the standing set and the frame whatever stood before; for a condition that stood, by its entry and the entry's
state. -/
theorem endingFollowsTheRule : Obligations.EndingFollowsTheRule := by
  unfold Obligations.EndingFollowsTheRule
  intro s x k
  refine ⟨by simp, (ended_reported s x k).frame, fun h => ⟨fun he => ?_, fun e he => ?_⟩⟩
  · rw [ended_of_no_entry h he]
    exact ⟨rfl, rfl⟩
  · rw [ended_of_entry h he]
    refine ⟨fun hstate => ?_, fun hstate => ?_, fun hstate => ?_⟩ <;> rw [hstate]
    · exact ⟨rfl, rfl⟩
    · exact ⟨endEntry_entries .., endEntry_port ..⟩
    · exact ⟨endEntry_entries .., endEntry_port ..⟩

end Sys2Proof.Machine
